-- ==== Sys2Proof/Word.lean ====
section
/-! DEFINITION. The two word types of the CORE (00_scope.md R8, R10): 8-bit bytes and 16-bit words. -/

namespace Sys2Proof

/-- `u8`: a register, a memory byte, an opcode (R8, R10). -/
abbrev Byte := BitVec 8

/-- `u16`: a register pair, SP, PC, an address (R8, R10). -/
abbrev Word := BitVec 16

end Sys2Proof
end

