-- ==== Sys2Proof/Syntax.lean ====
section
/-! DEFINITION. The syntax of the CORE: the operand names of 30_encoding.md R90 to R95 and `Instr`, one constructor for
each of the 512 rows of spec/opcode_table.json (256 primary, 256 extended). -/

namespace Sys2Proof

/-- The seven 8-bit registers an encoding field can name (R90). F is not among them: it is reached through the flags
and through AF. -/
inductive Reg8 where
  | a | b | c | d | e | h | l
deriving DecidableEq, Repr

/-- The operand field `r8(i)` (R90): a register, or the memory byte at HL. -/
inductive Opnd8 where
  | reg (r : Reg8)
  | atHL
deriving DecidableEq, Repr

/-- The three operand forms of the eight ALU operations (43_arith8.md section 1): `r`, `(HL)`, `n`. -/
inductive Src8 where
  | reg (r : Reg8)
  | atHL
  | imm (n : Byte)
deriving DecidableEq, Repr

/-- The 16-bit operand field `rp(p)` (R91). -/
inductive Pair where
  | bc | de | hl | sp
deriving DecidableEq, Repr

/-- The 16-bit operand field `rp2(p)` of PUSH and POP (R92). -/
inductive StackPair where
  | bc | de | hl | af
deriving DecidableEq, Repr

/-- The condition field `cc(i)` (R93). -/
inductive Cond where
  | nz | z | nc | c
deriving DecidableEq, Repr

/-- The ALU operation field `alu(y)` (R94). -/
inductive AluOp where
  | add | adc | sub | sbc | and | xor | or | cp
deriving DecidableEq, Repr

/-- The rotate/shift field `rot(y)` of the extended table (R95). -/
inductive RotOp where
  | rlc | rrc | rl | rr | sla | sra | swap | srl
deriving DecidableEq, Repr

/-- One instruction: one constructor per row of spec/opcode_table.json, with the operand bytes the row's format gives it
(R86): `n` and `e` one byte, `nn` a 16-bit word. The rows stand in the table's order, but that the eleven undefined
primary opcodes (R101) follow the defined ones. -/
inductive Instr where
  /-- 0x00: `NOP` (R280). -/
  | nop
  /-- 0x01: `LD BC,nn` (R169). -/
  | ldBC_nn (nn : Word)
  /-- 0x02: `LD (BC),A` (R157). -/
  | ldAtBC_A
  /-- 0x03: `INC BC` (R221). -/
  | incBC
  /-- 0x04: `INC B` (R204). -/
  | incB
  /-- 0x05: `DEC B` (R206). -/
  | decB
  /-- 0x06: `LD B,n` (R153). -/
  | ldB_n (n : Byte)
  /-- 0x07: `RLCA` (R212). -/
  | rlca
  /-- 0x08: `LD (nn),SP` (R170). -/
  | ldAtNN_SP (nn : Word)
  /-- 0x09: `ADD HL,BC` (R220). -/
  | addHL_BC
  /-- 0x0A: `LD A,(BC)` (R155). -/
  | ldA_atBC
  /-- 0x0B: `DEC BC` (R222). -/
  | decBC
  /-- 0x0C: `INC C` (R204). -/
  | incC
  /-- 0x0D: `DEC C` (R206). -/
  | decC
  /-- 0x0E: `LD C,n` (R153). -/
  | ldC_n (n : Byte)
  /-- 0x0F: `RRCA` (R213). -/
  | rrca
  /-- 0x10: `STOP` (R282). -/
  | stop (n : Byte)
  /-- 0x11: `LD DE,nn` (R169). -/
  | ldDE_nn (nn : Word)
  /-- 0x12: `LD (DE),A` (R158). -/
  | ldAtDE_A
  /-- 0x13: `INC DE` (R221). -/
  | incDE
  /-- 0x14: `INC D` (R204). -/
  | incD
  /-- 0x15: `DEC D` (R206). -/
  | decD
  /-- 0x16: `LD D,n` (R153). -/
  | ldD_n (n : Byte)
  /-- 0x17: `RLA` (R214). -/
  | rla
  /-- 0x18: `JR e` (R234). -/
  | jr (e : Byte)
  /-- 0x19: `ADD HL,DE` (R220). -/
  | addHL_DE
  /-- 0x1A: `LD A,(DE)` (R156). -/
  | ldA_atDE
  /-- 0x1B: `DEC DE` (R222). -/
  | decDE
  /-- 0x1C: `INC E` (R204). -/
  | incE
  /-- 0x1D: `DEC E` (R206). -/
  | decE
  /-- 0x1E: `LD E,n` (R153). -/
  | ldE_n (n : Byte)
  /-- 0x1F: `RRA` (R215). -/
  | rra
  /-- 0x20: `JR NZ,e` (R235). -/
  | jrNZ (e : Byte)
  /-- 0x21: `LD HL,nn` (R169). -/
  | ldHL_nn (nn : Word)
  /-- 0x22: `LD (HL+),A` (R165). -/
  | ldAtHLinc_A
  /-- 0x23: `INC HL` (R221). -/
  | incHL
  /-- 0x24: `INC H` (R204). -/
  | incH
  /-- 0x25: `DEC H` (R206). -/
  | decH
  /-- 0x26: `LD H,n` (R153). -/
  | ldH_n (n : Byte)
  /-- 0x27: `DAA` (R208). -/
  | daa
  /-- 0x28: `JR Z,e` (R235). -/
  | jrZ (e : Byte)
  /-- 0x29: `ADD HL,HL` (R220). -/
  | addHL_HL
  /-- 0x2A: `LD A,(HL+)` (R167). -/
  | ldA_atHLinc
  /-- 0x2B: `DEC HL` (R222). -/
  | decHL
  /-- 0x2C: `INC L` (R204). -/
  | incL
  /-- 0x2D: `DEC L` (R206). -/
  | decL
  /-- 0x2E: `LD L,n` (R153). -/
  | ldL_n (n : Byte)
  /-- 0x2F: `CPL` (R209). -/
  | cpl
  /-- 0x30: `JR NC,e` (R235). -/
  | jrNC (e : Byte)
  /-- 0x31: `LD SP,nn` (R169). -/
  | ldSP_nn (nn : Word)
  /-- 0x32: `LD (HL-),A` (R166). -/
  | ldAtHLdec_A
  /-- 0x33: `INC SP` (R221). -/
  | incSP
  /-- 0x34: `INC (HL)` (R205). -/
  | incAtHL
  /-- 0x35: `DEC (HL)` (R207). -/
  | decAtHL
  /-- 0x36: `LD (HL),n` (R154). -/
  | ldAtHL_n (n : Byte)
  /-- 0x37: `SCF` (R210). -/
  | scf
  /-- 0x38: `JR C,e` (R235). -/
  | jrC (e : Byte)
  /-- 0x39: `ADD HL,SP` (R220). -/
  | addHL_SP
  /-- 0x3A: `LD A,(HL-)` (R168). -/
  | ldA_atHLdec
  /-- 0x3B: `DEC SP` (R222). -/
  | decSP
  /-- 0x3C: `INC A` (R204). -/
  | incA
  /-- 0x3D: `DEC A` (R206). -/
  | decA
  /-- 0x3E: `LD A,n` (R153). -/
  | ldA_n (n : Byte)
  /-- 0x3F: `CCF` (R211). -/
  | ccf
  /-- 0x40: `LD B,B` (R150). -/
  | ldB_B
  /-- 0x41: `LD B,C` (R150). -/
  | ldB_C
  /-- 0x42: `LD B,D` (R150). -/
  | ldB_D
  /-- 0x43: `LD B,E` (R150). -/
  | ldB_E
  /-- 0x44: `LD B,H` (R150). -/
  | ldB_H
  /-- 0x45: `LD B,L` (R150). -/
  | ldB_L
  /-- 0x46: `LD B,(HL)` (R151). -/
  | ldB_atHL
  /-- 0x47: `LD B,A` (R150). -/
  | ldB_A
  /-- 0x48: `LD C,B` (R150). -/
  | ldC_B
  /-- 0x49: `LD C,C` (R150). -/
  | ldC_C
  /-- 0x4A: `LD C,D` (R150). -/
  | ldC_D
  /-- 0x4B: `LD C,E` (R150). -/
  | ldC_E
  /-- 0x4C: `LD C,H` (R150). -/
  | ldC_H
  /-- 0x4D: `LD C,L` (R150). -/
  | ldC_L
  /-- 0x4E: `LD C,(HL)` (R151). -/
  | ldC_atHL
  /-- 0x4F: `LD C,A` (R150). -/
  | ldC_A
  /-- 0x50: `LD D,B` (R150). -/
  | ldD_B
  /-- 0x51: `LD D,C` (R150). -/
  | ldD_C
  /-- 0x52: `LD D,D` (R150). -/
  | ldD_D
  /-- 0x53: `LD D,E` (R150). -/
  | ldD_E
  /-- 0x54: `LD D,H` (R150). -/
  | ldD_H
  /-- 0x55: `LD D,L` (R150). -/
  | ldD_L
  /-- 0x56: `LD D,(HL)` (R151). -/
  | ldD_atHL
  /-- 0x57: `LD D,A` (R150). -/
  | ldD_A
  /-- 0x58: `LD E,B` (R150). -/
  | ldE_B
  /-- 0x59: `LD E,C` (R150). -/
  | ldE_C
  /-- 0x5A: `LD E,D` (R150). -/
  | ldE_D
  /-- 0x5B: `LD E,E` (R150). -/
  | ldE_E
  /-- 0x5C: `LD E,H` (R150). -/
  | ldE_H
  /-- 0x5D: `LD E,L` (R150). -/
  | ldE_L
  /-- 0x5E: `LD E,(HL)` (R151). -/
  | ldE_atHL
  /-- 0x5F: `LD E,A` (R150). -/
  | ldE_A
  /-- 0x60: `LD H,B` (R150). -/
  | ldH_B
  /-- 0x61: `LD H,C` (R150). -/
  | ldH_C
  /-- 0x62: `LD H,D` (R150). -/
  | ldH_D
  /-- 0x63: `LD H,E` (R150). -/
  | ldH_E
  /-- 0x64: `LD H,H` (R150). -/
  | ldH_H
  /-- 0x65: `LD H,L` (R150). -/
  | ldH_L
  /-- 0x66: `LD H,(HL)` (R151). -/
  | ldH_atHL
  /-- 0x67: `LD H,A` (R150). -/
  | ldH_A
  /-- 0x68: `LD L,B` (R150). -/
  | ldL_B
  /-- 0x69: `LD L,C` (R150). -/
  | ldL_C
  /-- 0x6A: `LD L,D` (R150). -/
  | ldL_D
  /-- 0x6B: `LD L,E` (R150). -/
  | ldL_E
  /-- 0x6C: `LD L,H` (R150). -/
  | ldL_H
  /-- 0x6D: `LD L,L` (R150). -/
  | ldL_L
  /-- 0x6E: `LD L,(HL)` (R151). -/
  | ldL_atHL
  /-- 0x6F: `LD L,A` (R150). -/
  | ldL_A
  /-- 0x70: `LD (HL),B` (R152). -/
  | ldAtHL_B
  /-- 0x71: `LD (HL),C` (R152). -/
  | ldAtHL_C
  /-- 0x72: `LD (HL),D` (R152). -/
  | ldAtHL_D
  /-- 0x73: `LD (HL),E` (R152). -/
  | ldAtHL_E
  /-- 0x74: `LD (HL),H` (R152). -/
  | ldAtHL_H
  /-- 0x75: `LD (HL),L` (R152). -/
  | ldAtHL_L
  /-- 0x76: `HALT` (R281). -/
  | halt
  /-- 0x77: `LD (HL),A` (R152). -/
  | ldAtHL_A
  /-- 0x78: `LD A,B` (R150). -/
  | ldA_B
  /-- 0x79: `LD A,C` (R150). -/
  | ldA_C
  /-- 0x7A: `LD A,D` (R150). -/
  | ldA_D
  /-- 0x7B: `LD A,E` (R150). -/
  | ldA_E
  /-- 0x7C: `LD A,H` (R150). -/
  | ldA_H
  /-- 0x7D: `LD A,L` (R150). -/
  | ldA_L
  /-- 0x7E: `LD A,(HL)` (R151). -/
  | ldA_atHL
  /-- 0x7F: `LD A,A` (R150). -/
  | ldA_A
  /-- 0x80: `ADD A,B` (R180). -/
  | addA_B
  /-- 0x81: `ADD A,C` (R180). -/
  | addA_C
  /-- 0x82: `ADD A,D` (R180). -/
  | addA_D
  /-- 0x83: `ADD A,E` (R180). -/
  | addA_E
  /-- 0x84: `ADD A,H` (R180). -/
  | addA_H
  /-- 0x85: `ADD A,L` (R180). -/
  | addA_L
  /-- 0x86: `ADD A,(HL)` (R181). -/
  | addA_atHL
  /-- 0x87: `ADD A,A` (R180). -/
  | addA_A
  /-- 0x88: `ADC A,B` (R183). -/
  | adcA_B
  /-- 0x89: `ADC A,C` (R183). -/
  | adcA_C
  /-- 0x8A: `ADC A,D` (R183). -/
  | adcA_D
  /-- 0x8B: `ADC A,E` (R183). -/
  | adcA_E
  /-- 0x8C: `ADC A,H` (R183). -/
  | adcA_H
  /-- 0x8D: `ADC A,L` (R183). -/
  | adcA_L
  /-- 0x8E: `ADC A,(HL)` (R184). -/
  | adcA_atHL
  /-- 0x8F: `ADC A,A` (R183). -/
  | adcA_A
  /-- 0x90: `SUB B` (R186). -/
  | subB
  /-- 0x91: `SUB C` (R186). -/
  | subC
  /-- 0x92: `SUB D` (R186). -/
  | subD
  /-- 0x93: `SUB E` (R186). -/
  | subE
  /-- 0x94: `SUB H` (R186). -/
  | subH
  /-- 0x95: `SUB L` (R186). -/
  | subL
  /-- 0x96: `SUB (HL)` (R187). -/
  | subAtHL
  /-- 0x97: `SUB A` (R186). -/
  | subA
  /-- 0x98: `SBC A,B` (R189). -/
  | sbcA_B
  /-- 0x99: `SBC A,C` (R189). -/
  | sbcA_C
  /-- 0x9A: `SBC A,D` (R189). -/
  | sbcA_D
  /-- 0x9B: `SBC A,E` (R189). -/
  | sbcA_E
  /-- 0x9C: `SBC A,H` (R189). -/
  | sbcA_H
  /-- 0x9D: `SBC A,L` (R189). -/
  | sbcA_L
  /-- 0x9E: `SBC A,(HL)` (R190). -/
  | sbcA_atHL
  /-- 0x9F: `SBC A,A` (R189). -/
  | sbcA_A
  /-- 0xA0: `AND B` (R192). -/
  | andB
  /-- 0xA1: `AND C` (R192). -/
  | andC
  /-- 0xA2: `AND D` (R192). -/
  | andD
  /-- 0xA3: `AND E` (R192). -/
  | andE
  /-- 0xA4: `AND H` (R192). -/
  | andH
  /-- 0xA5: `AND L` (R192). -/
  | andL
  /-- 0xA6: `AND (HL)` (R193). -/
  | andAtHL
  /-- 0xA7: `AND A` (R192). -/
  | andA
  /-- 0xA8: `XOR B` (R195). -/
  | xorB
  /-- 0xA9: `XOR C` (R195). -/
  | xorC
  /-- 0xAA: `XOR D` (R195). -/
  | xorD
  /-- 0xAB: `XOR E` (R195). -/
  | xorE
  /-- 0xAC: `XOR H` (R195). -/
  | xorH
  /-- 0xAD: `XOR L` (R195). -/
  | xorL
  /-- 0xAE: `XOR (HL)` (R196). -/
  | xorAtHL
  /-- 0xAF: `XOR A` (R195). -/
  | xorA
  /-- 0xB0: `OR B` (R198). -/
  | orB
  /-- 0xB1: `OR C` (R198). -/
  | orC
  /-- 0xB2: `OR D` (R198). -/
  | orD
  /-- 0xB3: `OR E` (R198). -/
  | orE
  /-- 0xB4: `OR H` (R198). -/
  | orH
  /-- 0xB5: `OR L` (R198). -/
  | orL
  /-- 0xB6: `OR (HL)` (R199). -/
  | orAtHL
  /-- 0xB7: `OR A` (R198). -/
  | orA
  /-- 0xB8: `CP B` (R201). -/
  | cpB
  /-- 0xB9: `CP C` (R201). -/
  | cpC
  /-- 0xBA: `CP D` (R201). -/
  | cpD
  /-- 0xBB: `CP E` (R201). -/
  | cpE
  /-- 0xBC: `CP H` (R201). -/
  | cpH
  /-- 0xBD: `CP L` (R201). -/
  | cpL
  /-- 0xBE: `CP (HL)` (R202). -/
  | cpAtHL
  /-- 0xBF: `CP A` (R201). -/
  | cpA
  /-- 0xC0: `RET NZ` (R239). -/
  | retNZ
  /-- 0xC1: `POP BC` (R174). -/
  | popBC
  /-- 0xC2: `JP NZ,nn` (R232). -/
  | jpNZ (nn : Word)
  /-- 0xC3: `JP nn` (R231). -/
  | jp (nn : Word)
  /-- 0xC4: `CALL NZ,nn` (R237). -/
  | callNZ (nn : Word)
  /-- 0xC5: `PUSH BC` (R173). -/
  | pushBC
  /-- 0xC6: `ADD A,n` (R182). -/
  | addA_n (n : Byte)
  /-- 0xC7: `RST 00H` (R241). -/
  | rst00
  /-- 0xC8: `RET Z` (R239). -/
  | retZ
  /-- 0xC9: `RET` (R238). -/
  | ret
  /-- 0xCA: `JP Z,nn` (R232). -/
  | jpZ (nn : Word)
  /-- 0xCB: `PREFIX CB` (R285). -/
  | prefixCB
  /-- 0xCC: `CALL Z,nn` (R237). -/
  | callZ (nn : Word)
  /-- 0xCD: `CALL nn` (R236). -/
  | call (nn : Word)
  /-- 0xCE: `ADC A,n` (R185). -/
  | adcA_n (n : Byte)
  /-- 0xCF: `RST 08H` (R241). -/
  | rst08
  /-- 0xD0: `RET NC` (R239). -/
  | retNC
  /-- 0xD1: `POP DE` (R174). -/
  | popDE
  /-- 0xD2: `JP NC,nn` (R232). -/
  | jpNC (nn : Word)
  /-- 0xD4: `CALL NC,nn` (R237). -/
  | callNC (nn : Word)
  /-- 0xD5: `PUSH DE` (R173). -/
  | pushDE
  /-- 0xD6: `SUB n` (R188). -/
  | sub_n (n : Byte)
  /-- 0xD7: `RST 10H` (R241). -/
  | rst10
  /-- 0xD8: `RET C` (R239). -/
  | retC
  /-- 0xD9: `RETI` (R240). -/
  | reti
  /-- 0xDA: `JP C,nn` (R232). -/
  | jpC (nn : Word)
  /-- 0xDC: `CALL C,nn` (R237). -/
  | callC (nn : Word)
  /-- 0xDE: `SBC A,n` (R191). -/
  | sbcA_n (n : Byte)
  /-- 0xDF: `RST 18H` (R241). -/
  | rst18
  /-- 0xE0: `LDH (n),A` (R162). -/
  | ldhAtN_A (n : Byte)
  /-- 0xE1: `POP HL` (R174). -/
  | popHL
  /-- 0xE2: `LD (C),A` (R164). -/
  | ldAtC_A
  /-- 0xE5: `PUSH HL` (R173). -/
  | pushHL
  /-- 0xE6: `AND n` (R194). -/
  | and_n (n : Byte)
  /-- 0xE7: `RST 20H` (R241). -/
  | rst20
  /-- 0xE8: `ADD SP,e` (R223). -/
  | addSP_e (e : Byte)
  /-- 0xE9: `JP HL` (R233). -/
  | jpHL
  /-- 0xEA: `LD (nn),A` (R160). -/
  | ldAtNN_A (nn : Word)
  /-- 0xEE: `XOR n` (R197). -/
  | xor_n (n : Byte)
  /-- 0xEF: `RST 28H` (R241). -/
  | rst28
  /-- 0xF0: `LDH A,(n)` (R161). -/
  | ldhA_atN (n : Byte)
  /-- 0xF1: `POP AF` (R175). -/
  | popAF
  /-- 0xF2: `LD A,(C)` (R163). -/
  | ldA_atC
  /-- 0xF3: `DI` (R283). -/
  | di
  /-- 0xF5: `PUSH AF` (R173). -/
  | pushAF
  /-- 0xF6: `OR n` (R200). -/
  | or_n (n : Byte)
  /-- 0xF7: `RST 30H` (R241). -/
  | rst30
  /-- 0xF8: `LD HL,SP+e` (R172). -/
  | ldHL_SPe (e : Byte)
  /-- 0xF9: `LD SP,HL` (R171). -/
  | ldSP_HL
  /-- 0xFA: `LD A,(nn)` (R159). -/
  | ldA_atNN (nn : Word)
  /-- 0xFB: `EI` (R284). -/
  | ei
  /-- 0xFE: `CP n` (R203). -/
  | cp_n (n : Byte)
  /-- 0xFF: `RST 38H` (R241). -/
  | rst38
  /-- 0xD3: `(undefined)` (R286). -/
  | undefinedD3
  /-- 0xDB: `(undefined)` (R286). -/
  | undefinedDB
  /-- 0xDD: `(undefined)` (R286). -/
  | undefinedDD
  /-- 0xE3: `(undefined)` (R286). -/
  | undefinedE3
  /-- 0xE4: `(undefined)` (R286). -/
  | undefinedE4
  /-- 0xEB: `(undefined)` (R286). -/
  | undefinedEB
  /-- 0xEC: `(undefined)` (R286). -/
  | undefinedEC
  /-- 0xED: `(undefined)` (R286). -/
  | undefinedED
  /-- 0xF4: `(undefined)` (R286). -/
  | undefinedF4
  /-- 0xFC: `(undefined)` (R286). -/
  | undefinedFC
  /-- 0xFD: `(undefined)` (R286). -/
  | undefinedFD
  /-- 0xCB 00: `RLC B` (R251). -/
  | rlcB
  /-- 0xCB 01: `RLC C` (R251). -/
  | rlcC
  /-- 0xCB 02: `RLC D` (R251). -/
  | rlcD
  /-- 0xCB 03: `RLC E` (R251). -/
  | rlcE
  /-- 0xCB 04: `RLC H` (R251). -/
  | rlcH
  /-- 0xCB 05: `RLC L` (R251). -/
  | rlcL
  /-- 0xCB 06: `RLC (HL)` (R252). -/
  | rlcAtHL
  /-- 0xCB 07: `RLC A` (R251). -/
  | rlcA
  /-- 0xCB 08: `RRC B` (R253). -/
  | rrcB
  /-- 0xCB 09: `RRC C` (R253). -/
  | rrcC
  /-- 0xCB 0A: `RRC D` (R253). -/
  | rrcD
  /-- 0xCB 0B: `RRC E` (R253). -/
  | rrcE
  /-- 0xCB 0C: `RRC H` (R253). -/
  | rrcH
  /-- 0xCB 0D: `RRC L` (R253). -/
  | rrcL
  /-- 0xCB 0E: `RRC (HL)` (R254). -/
  | rrcAtHL
  /-- 0xCB 0F: `RRC A` (R253). -/
  | rrcA
  /-- 0xCB 10: `RL B` (R255). -/
  | rlB
  /-- 0xCB 11: `RL C` (R255). -/
  | rlC
  /-- 0xCB 12: `RL D` (R255). -/
  | rlD
  /-- 0xCB 13: `RL E` (R255). -/
  | rlE
  /-- 0xCB 14: `RL H` (R255). -/
  | rlH
  /-- 0xCB 15: `RL L` (R255). -/
  | rlL
  /-- 0xCB 16: `RL (HL)` (R256). -/
  | rlAtHL
  /-- 0xCB 17: `RL A` (R255). -/
  | rlA
  /-- 0xCB 18: `RR B` (R257). -/
  | rrB
  /-- 0xCB 19: `RR C` (R257). -/
  | rrC
  /-- 0xCB 1A: `RR D` (R257). -/
  | rrD
  /-- 0xCB 1B: `RR E` (R257). -/
  | rrE
  /-- 0xCB 1C: `RR H` (R257). -/
  | rrH
  /-- 0xCB 1D: `RR L` (R257). -/
  | rrL
  /-- 0xCB 1E: `RR (HL)` (R258). -/
  | rrAtHL
  /-- 0xCB 1F: `RR A` (R257). -/
  | rrA
  /-- 0xCB 20: `SLA B` (R259). -/
  | slaB
  /-- 0xCB 21: `SLA C` (R259). -/
  | slaC
  /-- 0xCB 22: `SLA D` (R259). -/
  | slaD
  /-- 0xCB 23: `SLA E` (R259). -/
  | slaE
  /-- 0xCB 24: `SLA H` (R259). -/
  | slaH
  /-- 0xCB 25: `SLA L` (R259). -/
  | slaL
  /-- 0xCB 26: `SLA (HL)` (R260). -/
  | slaAtHL
  /-- 0xCB 27: `SLA A` (R259). -/
  | slaA
  /-- 0xCB 28: `SRA B` (R261). -/
  | sraB
  /-- 0xCB 29: `SRA C` (R261). -/
  | sraC
  /-- 0xCB 2A: `SRA D` (R261). -/
  | sraD
  /-- 0xCB 2B: `SRA E` (R261). -/
  | sraE
  /-- 0xCB 2C: `SRA H` (R261). -/
  | sraH
  /-- 0xCB 2D: `SRA L` (R261). -/
  | sraL
  /-- 0xCB 2E: `SRA (HL)` (R262). -/
  | sraAtHL
  /-- 0xCB 2F: `SRA A` (R261). -/
  | sraA
  /-- 0xCB 30: `SWAP B` (R263). -/
  | swapB
  /-- 0xCB 31: `SWAP C` (R263). -/
  | swapC
  /-- 0xCB 32: `SWAP D` (R263). -/
  | swapD
  /-- 0xCB 33: `SWAP E` (R263). -/
  | swapE
  /-- 0xCB 34: `SWAP H` (R263). -/
  | swapH
  /-- 0xCB 35: `SWAP L` (R263). -/
  | swapL
  /-- 0xCB 36: `SWAP (HL)` (R264). -/
  | swapAtHL
  /-- 0xCB 37: `SWAP A` (R263). -/
  | swapA
  /-- 0xCB 38: `SRL B` (R265). -/
  | srlB
  /-- 0xCB 39: `SRL C` (R265). -/
  | srlC
  /-- 0xCB 3A: `SRL D` (R265). -/
  | srlD
  /-- 0xCB 3B: `SRL E` (R265). -/
  | srlE
  /-- 0xCB 3C: `SRL H` (R265). -/
  | srlH
  /-- 0xCB 3D: `SRL L` (R265). -/
  | srlL
  /-- 0xCB 3E: `SRL (HL)` (R266). -/
  | srlAtHL
  /-- 0xCB 3F: `SRL A` (R265). -/
  | srlA
  /-- 0xCB 40: `BIT 0,B` (R267). -/
  | bit0_B
  /-- 0xCB 41: `BIT 0,C` (R267). -/
  | bit0_C
  /-- 0xCB 42: `BIT 0,D` (R267). -/
  | bit0_D
  /-- 0xCB 43: `BIT 0,E` (R267). -/
  | bit0_E
  /-- 0xCB 44: `BIT 0,H` (R267). -/
  | bit0_H
  /-- 0xCB 45: `BIT 0,L` (R267). -/
  | bit0_L
  /-- 0xCB 46: `BIT 0,(HL)` (R268). -/
  | bit0_atHL
  /-- 0xCB 47: `BIT 0,A` (R267). -/
  | bit0_A
  /-- 0xCB 48: `BIT 1,B` (R267). -/
  | bit1_B
  /-- 0xCB 49: `BIT 1,C` (R267). -/
  | bit1_C
  /-- 0xCB 4A: `BIT 1,D` (R267). -/
  | bit1_D
  /-- 0xCB 4B: `BIT 1,E` (R267). -/
  | bit1_E
  /-- 0xCB 4C: `BIT 1,H` (R267). -/
  | bit1_H
  /-- 0xCB 4D: `BIT 1,L` (R267). -/
  | bit1_L
  /-- 0xCB 4E: `BIT 1,(HL)` (R268). -/
  | bit1_atHL
  /-- 0xCB 4F: `BIT 1,A` (R267). -/
  | bit1_A
  /-- 0xCB 50: `BIT 2,B` (R267). -/
  | bit2_B
  /-- 0xCB 51: `BIT 2,C` (R267). -/
  | bit2_C
  /-- 0xCB 52: `BIT 2,D` (R267). -/
  | bit2_D
  /-- 0xCB 53: `BIT 2,E` (R267). -/
  | bit2_E
  /-- 0xCB 54: `BIT 2,H` (R267). -/
  | bit2_H
  /-- 0xCB 55: `BIT 2,L` (R267). -/
  | bit2_L
  /-- 0xCB 56: `BIT 2,(HL)` (R268). -/
  | bit2_atHL
  /-- 0xCB 57: `BIT 2,A` (R267). -/
  | bit2_A
  /-- 0xCB 58: `BIT 3,B` (R267). -/
  | bit3_B
  /-- 0xCB 59: `BIT 3,C` (R267). -/
  | bit3_C
  /-- 0xCB 5A: `BIT 3,D` (R267). -/
  | bit3_D
  /-- 0xCB 5B: `BIT 3,E` (R267). -/
  | bit3_E
  /-- 0xCB 5C: `BIT 3,H` (R267). -/
  | bit3_H
  /-- 0xCB 5D: `BIT 3,L` (R267). -/
  | bit3_L
  /-- 0xCB 5E: `BIT 3,(HL)` (R268). -/
  | bit3_atHL
  /-- 0xCB 5F: `BIT 3,A` (R267). -/
  | bit3_A
  /-- 0xCB 60: `BIT 4,B` (R267). -/
  | bit4_B
  /-- 0xCB 61: `BIT 4,C` (R267). -/
  | bit4_C
  /-- 0xCB 62: `BIT 4,D` (R267). -/
  | bit4_D
  /-- 0xCB 63: `BIT 4,E` (R267). -/
  | bit4_E
  /-- 0xCB 64: `BIT 4,H` (R267). -/
  | bit4_H
  /-- 0xCB 65: `BIT 4,L` (R267). -/
  | bit4_L
  /-- 0xCB 66: `BIT 4,(HL)` (R268). -/
  | bit4_atHL
  /-- 0xCB 67: `BIT 4,A` (R267). -/
  | bit4_A
  /-- 0xCB 68: `BIT 5,B` (R267). -/
  | bit5_B
  /-- 0xCB 69: `BIT 5,C` (R267). -/
  | bit5_C
  /-- 0xCB 6A: `BIT 5,D` (R267). -/
  | bit5_D
  /-- 0xCB 6B: `BIT 5,E` (R267). -/
  | bit5_E
  /-- 0xCB 6C: `BIT 5,H` (R267). -/
  | bit5_H
  /-- 0xCB 6D: `BIT 5,L` (R267). -/
  | bit5_L
  /-- 0xCB 6E: `BIT 5,(HL)` (R268). -/
  | bit5_atHL
  /-- 0xCB 6F: `BIT 5,A` (R267). -/
  | bit5_A
  /-- 0xCB 70: `BIT 6,B` (R267). -/
  | bit6_B
  /-- 0xCB 71: `BIT 6,C` (R267). -/
  | bit6_C
  /-- 0xCB 72: `BIT 6,D` (R267). -/
  | bit6_D
  /-- 0xCB 73: `BIT 6,E` (R267). -/
  | bit6_E
  /-- 0xCB 74: `BIT 6,H` (R267). -/
  | bit6_H
  /-- 0xCB 75: `BIT 6,L` (R267). -/
  | bit6_L
  /-- 0xCB 76: `BIT 6,(HL)` (R268). -/
  | bit6_atHL
  /-- 0xCB 77: `BIT 6,A` (R267). -/
  | bit6_A
  /-- 0xCB 78: `BIT 7,B` (R267). -/
  | bit7_B
  /-- 0xCB 79: `BIT 7,C` (R267). -/
  | bit7_C
  /-- 0xCB 7A: `BIT 7,D` (R267). -/
  | bit7_D
  /-- 0xCB 7B: `BIT 7,E` (R267). -/
  | bit7_E
  /-- 0xCB 7C: `BIT 7,H` (R267). -/
  | bit7_H
  /-- 0xCB 7D: `BIT 7,L` (R267). -/
  | bit7_L
  /-- 0xCB 7E: `BIT 7,(HL)` (R268). -/
  | bit7_atHL
  /-- 0xCB 7F: `BIT 7,A` (R267). -/
  | bit7_A
  /-- 0xCB 80: `RES 0,B` (R269). -/
  | res0_B
  /-- 0xCB 81: `RES 0,C` (R269). -/
  | res0_C
  /-- 0xCB 82: `RES 0,D` (R269). -/
  | res0_D
  /-- 0xCB 83: `RES 0,E` (R269). -/
  | res0_E
  /-- 0xCB 84: `RES 0,H` (R269). -/
  | res0_H
  /-- 0xCB 85: `RES 0,L` (R269). -/
  | res0_L
  /-- 0xCB 86: `RES 0,(HL)` (R270). -/
  | res0_atHL
  /-- 0xCB 87: `RES 0,A` (R269). -/
  | res0_A
  /-- 0xCB 88: `RES 1,B` (R269). -/
  | res1_B
  /-- 0xCB 89: `RES 1,C` (R269). -/
  | res1_C
  /-- 0xCB 8A: `RES 1,D` (R269). -/
  | res1_D
  /-- 0xCB 8B: `RES 1,E` (R269). -/
  | res1_E
  /-- 0xCB 8C: `RES 1,H` (R269). -/
  | res1_H
  /-- 0xCB 8D: `RES 1,L` (R269). -/
  | res1_L
  /-- 0xCB 8E: `RES 1,(HL)` (R270). -/
  | res1_atHL
  /-- 0xCB 8F: `RES 1,A` (R269). -/
  | res1_A
  /-- 0xCB 90: `RES 2,B` (R269). -/
  | res2_B
  /-- 0xCB 91: `RES 2,C` (R269). -/
  | res2_C
  /-- 0xCB 92: `RES 2,D` (R269). -/
  | res2_D
  /-- 0xCB 93: `RES 2,E` (R269). -/
  | res2_E
  /-- 0xCB 94: `RES 2,H` (R269). -/
  | res2_H
  /-- 0xCB 95: `RES 2,L` (R269). -/
  | res2_L
  /-- 0xCB 96: `RES 2,(HL)` (R270). -/
  | res2_atHL
  /-- 0xCB 97: `RES 2,A` (R269). -/
  | res2_A
  /-- 0xCB 98: `RES 3,B` (R269). -/
  | res3_B
  /-- 0xCB 99: `RES 3,C` (R269). -/
  | res3_C
  /-- 0xCB 9A: `RES 3,D` (R269). -/
  | res3_D
  /-- 0xCB 9B: `RES 3,E` (R269). -/
  | res3_E
  /-- 0xCB 9C: `RES 3,H` (R269). -/
  | res3_H
  /-- 0xCB 9D: `RES 3,L` (R269). -/
  | res3_L
  /-- 0xCB 9E: `RES 3,(HL)` (R270). -/
  | res3_atHL
  /-- 0xCB 9F: `RES 3,A` (R269). -/
  | res3_A
  /-- 0xCB A0: `RES 4,B` (R269). -/
  | res4_B
  /-- 0xCB A1: `RES 4,C` (R269). -/
  | res4_C
  /-- 0xCB A2: `RES 4,D` (R269). -/
  | res4_D
  /-- 0xCB A3: `RES 4,E` (R269). -/
  | res4_E
  /-- 0xCB A4: `RES 4,H` (R269). -/
  | res4_H
  /-- 0xCB A5: `RES 4,L` (R269). -/
  | res4_L
  /-- 0xCB A6: `RES 4,(HL)` (R270). -/
  | res4_atHL
  /-- 0xCB A7: `RES 4,A` (R269). -/
  | res4_A
  /-- 0xCB A8: `RES 5,B` (R269). -/
  | res5_B
  /-- 0xCB A9: `RES 5,C` (R269). -/
  | res5_C
  /-- 0xCB AA: `RES 5,D` (R269). -/
  | res5_D
  /-- 0xCB AB: `RES 5,E` (R269). -/
  | res5_E
  /-- 0xCB AC: `RES 5,H` (R269). -/
  | res5_H
  /-- 0xCB AD: `RES 5,L` (R269). -/
  | res5_L
  /-- 0xCB AE: `RES 5,(HL)` (R270). -/
  | res5_atHL
  /-- 0xCB AF: `RES 5,A` (R269). -/
  | res5_A
  /-- 0xCB B0: `RES 6,B` (R269). -/
  | res6_B
  /-- 0xCB B1: `RES 6,C` (R269). -/
  | res6_C
  /-- 0xCB B2: `RES 6,D` (R269). -/
  | res6_D
  /-- 0xCB B3: `RES 6,E` (R269). -/
  | res6_E
  /-- 0xCB B4: `RES 6,H` (R269). -/
  | res6_H
  /-- 0xCB B5: `RES 6,L` (R269). -/
  | res6_L
  /-- 0xCB B6: `RES 6,(HL)` (R270). -/
  | res6_atHL
  /-- 0xCB B7: `RES 6,A` (R269). -/
  | res6_A
  /-- 0xCB B8: `RES 7,B` (R269). -/
  | res7_B
  /-- 0xCB B9: `RES 7,C` (R269). -/
  | res7_C
  /-- 0xCB BA: `RES 7,D` (R269). -/
  | res7_D
  /-- 0xCB BB: `RES 7,E` (R269). -/
  | res7_E
  /-- 0xCB BC: `RES 7,H` (R269). -/
  | res7_H
  /-- 0xCB BD: `RES 7,L` (R269). -/
  | res7_L
  /-- 0xCB BE: `RES 7,(HL)` (R270). -/
  | res7_atHL
  /-- 0xCB BF: `RES 7,A` (R269). -/
  | res7_A
  /-- 0xCB C0: `SET 0,B` (R271). -/
  | set0_B
  /-- 0xCB C1: `SET 0,C` (R271). -/
  | set0_C
  /-- 0xCB C2: `SET 0,D` (R271). -/
  | set0_D
  /-- 0xCB C3: `SET 0,E` (R271). -/
  | set0_E
  /-- 0xCB C4: `SET 0,H` (R271). -/
  | set0_H
  /-- 0xCB C5: `SET 0,L` (R271). -/
  | set0_L
  /-- 0xCB C6: `SET 0,(HL)` (R272). -/
  | set0_atHL
  /-- 0xCB C7: `SET 0,A` (R271). -/
  | set0_A
  /-- 0xCB C8: `SET 1,B` (R271). -/
  | set1_B
  /-- 0xCB C9: `SET 1,C` (R271). -/
  | set1_C
  /-- 0xCB CA: `SET 1,D` (R271). -/
  | set1_D
  /-- 0xCB CB: `SET 1,E` (R271). -/
  | set1_E
  /-- 0xCB CC: `SET 1,H` (R271). -/
  | set1_H
  /-- 0xCB CD: `SET 1,L` (R271). -/
  | set1_L
  /-- 0xCB CE: `SET 1,(HL)` (R272). -/
  | set1_atHL
  /-- 0xCB CF: `SET 1,A` (R271). -/
  | set1_A
  /-- 0xCB D0: `SET 2,B` (R271). -/
  | set2_B
  /-- 0xCB D1: `SET 2,C` (R271). -/
  | set2_C
  /-- 0xCB D2: `SET 2,D` (R271). -/
  | set2_D
  /-- 0xCB D3: `SET 2,E` (R271). -/
  | set2_E
  /-- 0xCB D4: `SET 2,H` (R271). -/
  | set2_H
  /-- 0xCB D5: `SET 2,L` (R271). -/
  | set2_L
  /-- 0xCB D6: `SET 2,(HL)` (R272). -/
  | set2_atHL
  /-- 0xCB D7: `SET 2,A` (R271). -/
  | set2_A
  /-- 0xCB D8: `SET 3,B` (R271). -/
  | set3_B
  /-- 0xCB D9: `SET 3,C` (R271). -/
  | set3_C
  /-- 0xCB DA: `SET 3,D` (R271). -/
  | set3_D
  /-- 0xCB DB: `SET 3,E` (R271). -/
  | set3_E
  /-- 0xCB DC: `SET 3,H` (R271). -/
  | set3_H
  /-- 0xCB DD: `SET 3,L` (R271). -/
  | set3_L
  /-- 0xCB DE: `SET 3,(HL)` (R272). -/
  | set3_atHL
  /-- 0xCB DF: `SET 3,A` (R271). -/
  | set3_A
  /-- 0xCB E0: `SET 4,B` (R271). -/
  | set4_B
  /-- 0xCB E1: `SET 4,C` (R271). -/
  | set4_C
  /-- 0xCB E2: `SET 4,D` (R271). -/
  | set4_D
  /-- 0xCB E3: `SET 4,E` (R271). -/
  | set4_E
  /-- 0xCB E4: `SET 4,H` (R271). -/
  | set4_H
  /-- 0xCB E5: `SET 4,L` (R271). -/
  | set4_L
  /-- 0xCB E6: `SET 4,(HL)` (R272). -/
  | set4_atHL
  /-- 0xCB E7: `SET 4,A` (R271). -/
  | set4_A
  /-- 0xCB E8: `SET 5,B` (R271). -/
  | set5_B
  /-- 0xCB E9: `SET 5,C` (R271). -/
  | set5_C
  /-- 0xCB EA: `SET 5,D` (R271). -/
  | set5_D
  /-- 0xCB EB: `SET 5,E` (R271). -/
  | set5_E
  /-- 0xCB EC: `SET 5,H` (R271). -/
  | set5_H
  /-- 0xCB ED: `SET 5,L` (R271). -/
  | set5_L
  /-- 0xCB EE: `SET 5,(HL)` (R272). -/
  | set5_atHL
  /-- 0xCB EF: `SET 5,A` (R271). -/
  | set5_A
  /-- 0xCB F0: `SET 6,B` (R271). -/
  | set6_B
  /-- 0xCB F1: `SET 6,C` (R271). -/
  | set6_C
  /-- 0xCB F2: `SET 6,D` (R271). -/
  | set6_D
  /-- 0xCB F3: `SET 6,E` (R271). -/
  | set6_E
  /-- 0xCB F4: `SET 6,H` (R271). -/
  | set6_H
  /-- 0xCB F5: `SET 6,L` (R271). -/
  | set6_L
  /-- 0xCB F6: `SET 6,(HL)` (R272). -/
  | set6_atHL
  /-- 0xCB F7: `SET 6,A` (R271). -/
  | set6_A
  /-- 0xCB F8: `SET 7,B` (R271). -/
  | set7_B
  /-- 0xCB F9: `SET 7,C` (R271). -/
  | set7_C
  /-- 0xCB FA: `SET 7,D` (R271). -/
  | set7_D
  /-- 0xCB FB: `SET 7,E` (R271). -/
  | set7_E
  /-- 0xCB FC: `SET 7,H` (R271). -/
  | set7_H
  /-- 0xCB FD: `SET 7,L` (R271). -/
  | set7_L
  /-- 0xCB FE: `SET 7,(HL)` (R272). -/
  | set7_atHL
  /-- 0xCB FF: `SET 7,A` (R271). -/
  | set7_A
deriving DecidableEq, Repr

end Sys2Proof
end

