-- ==== Sys2Proof/WellFormed.lean ====
section
/-! DEFINITION. Which terms of `Instr` are whole instructions. Every operand has exactly the width of its encoding field
by its type, so one check is left. -/

namespace Sys2Proof

/-- An instruction is one opcode byte with its operand bytes, or the prefix byte FOLLOWED BY an extended opcode byte
(R85, R305: "A prefixed instruction (0xCB plus its byte) is one dispatch"). The table's row PREFIX CB by itself is
therefore not a whole instruction: it is the primary table's entry that runs one (R285). -/
def Instr.wf (i : Instr) : Bool := decide (i ≠ Instr.prefixCB)

end Sys2Proof
end

