-- ==== Sys2Proof/Decode.lean ====
section
/-! DEFINITION. Instruction encoding (30_encoding.md): the byte-order helpers, the fields of R88 to R95, the decoder
written over those fields (R98, R100, total, R107), the encoder written from the two byte maps (R97, R100), and the
host's reading of a table word (`decodeTableWord`). -/

namespace Sys2Proof

/-! ## Byte order (R10, R69) -/

/-- `v[7:0]`. -/
def loByte (v : Word) : Byte := v.extractLsb' 0 8

/-- `v[15:8]`. -/
def hiByte (v : Word) : Byte := v.extractLsb' 8 8

/-- `hi ++ lo` (R10). -/
def joinBytes (hi lo : Byte) : Word := hi ++ lo

/-! ## Fields (R88 to R95) -/

/-- `x = op[7:6]`. -/
def opX (op : Byte) : Nat := op.toNat / 64

/-- `y = op[5:3]`. -/
def opY (op : Byte) : Nat := op.toNat / 8 % 8

/-- `z = op[2:0]`. -/
def opZ (op : Byte) : Nat := op.toNat % 8

/-- `p = op[5:4]`. -/
def opP (op : Byte) : Nat := op.toNat / 16 % 4

/-- `q = op[3]`. -/
def opQ (op : Byte) : Nat := op.toNat / 8 % 2

/-- `r8(i)`, i in 0..7 (R90). -/
def r8 : Nat → Opnd8
  | 0 => .reg .b
  | 1 => .reg .c
  | 2 => .reg .d
  | 3 => .reg .e
  | 4 => .reg .h
  | 5 => .reg .l
  | 6 => .atHL
  | _ => .reg .a

/-- `rp(p)`, p in 0..3 (R91). -/
def rp : Nat → Pair
  | 0 => .bc
  | 1 => .de
  | 2 => .hl
  | _ => .sp

/-- `rp2(p)`, p in 0..3 (R92). -/
def rp2 : Nat → StackPair
  | 0 => .bc
  | 1 => .de
  | 2 => .hl
  | _ => .af

/-- `cc(i)`, i in 0..3 (R93). -/
def cc : Nat → Cond
  | 0 => .nz
  | 1 => .z
  | 2 => .nc
  | _ => .c

/-- `alu(y)`, y in 0..7 (R94). -/
def alu : Nat → AluOp
  | 0 => .add
  | 1 => .adc
  | 2 => .sub
  | 3 => .sbc
  | 4 => .and
  | 5 => .xor
  | 6 => .or
  | _ => .cp

/-- `rot(y)`, y in 0..7 (R95). -/
def rot : Nat → RotOp
  | 0 => .rlc
  | 1 => .rrc
  | 2 => .rl
  | 3 => .rr
  | 4 => .sla
  | 5 => .sra
  | 6 => .swap
  | _ => .srl

/-- A bit index field or RST field (R89, R96), y in 0..7. -/
def bitIndex (y : Nat) : Fin 8 := Fin.ofNat 8 y

/-- An `r8` operand as the source of an ALU operation (43_arith8.md section 1). -/
def Opnd8.toSrc : Opnd8 → Src8
  | .reg r => .reg r
  | .atHL => .atHL

/-! ## The instruction families: which row an operation and its operand fields name

Each function gives, for the operands of one instruction rule, the table row that holds them. -/

/-- `LD r,r'` (R150): the 49 opcodes `01yyyzzz` with y and z not 6. -/
def Instr.mkLdRegReg : Reg8 → Reg8 → Instr
  | .b, .b => .ldB_B
  | .b, .c => .ldB_C
  | .b, .d => .ldB_D
  | .b, .e => .ldB_E
  | .b, .h => .ldB_H
  | .b, .l => .ldB_L
  | .b, .a => .ldB_A
  | .c, .b => .ldC_B
  | .c, .c => .ldC_C
  | .c, .d => .ldC_D
  | .c, .e => .ldC_E
  | .c, .h => .ldC_H
  | .c, .l => .ldC_L
  | .c, .a => .ldC_A
  | .d, .b => .ldD_B
  | .d, .c => .ldD_C
  | .d, .d => .ldD_D
  | .d, .e => .ldD_E
  | .d, .h => .ldD_H
  | .d, .l => .ldD_L
  | .d, .a => .ldD_A
  | .e, .b => .ldE_B
  | .e, .c => .ldE_C
  | .e, .d => .ldE_D
  | .e, .e => .ldE_E
  | .e, .h => .ldE_H
  | .e, .l => .ldE_L
  | .e, .a => .ldE_A
  | .h, .b => .ldH_B
  | .h, .c => .ldH_C
  | .h, .d => .ldH_D
  | .h, .e => .ldH_E
  | .h, .h => .ldH_H
  | .h, .l => .ldH_L
  | .h, .a => .ldH_A
  | .l, .b => .ldL_B
  | .l, .c => .ldL_C
  | .l, .d => .ldL_D
  | .l, .e => .ldL_E
  | .l, .h => .ldL_H
  | .l, .l => .ldL_L
  | .l, .a => .ldL_A
  | .a, .b => .ldA_B
  | .a, .c => .ldA_C
  | .a, .d => .ldA_D
  | .a, .e => .ldA_E
  | .a, .h => .ldA_H
  | .a, .l => .ldA_L
  | .a, .a => .ldA_A

/-- `LD r,(HL)` (R151). -/
def Instr.mkLdRegAtHL : Reg8 → Instr
  | .b => .ldB_atHL
  | .c => .ldC_atHL
  | .d => .ldD_atHL
  | .e => .ldE_atHL
  | .h => .ldH_atHL
  | .l => .ldL_atHL
  | .a => .ldA_atHL

/-- `LD (HL),r` (R152). -/
def Instr.mkLdAtHLReg : Reg8 → Instr
  | .b => .ldAtHL_B
  | .c => .ldAtHL_C
  | .d => .ldAtHL_D
  | .e => .ldAtHL_E
  | .h => .ldAtHL_H
  | .l => .ldAtHL_L
  | .a => .ldAtHL_A

/-- `LD r,n` (R153). -/
def Instr.mkLdRegImm : Reg8 → Byte → Instr
  | .b, n => .ldB_n n
  | .c, n => .ldC_n n
  | .d, n => .ldD_n n
  | .e, n => .ldE_n n
  | .h, n => .ldH_n n
  | .l, n => .ldL_n n
  | .a, n => .ldA_n n

/-- The eight ALU operations with their three operand forms (R180 to R203). -/
def Instr.mkAlu : AluOp → Src8 → Instr
  | .add, .reg .b => .addA_B
  | .add, .reg .c => .addA_C
  | .add, .reg .d => .addA_D
  | .add, .reg .e => .addA_E
  | .add, .reg .h => .addA_H
  | .add, .reg .l => .addA_L
  | .add, .reg .a => .addA_A
  | .add, .atHL => .addA_atHL
  | .add, .imm n => .addA_n n
  | .adc, .reg .b => .adcA_B
  | .adc, .reg .c => .adcA_C
  | .adc, .reg .d => .adcA_D
  | .adc, .reg .e => .adcA_E
  | .adc, .reg .h => .adcA_H
  | .adc, .reg .l => .adcA_L
  | .adc, .reg .a => .adcA_A
  | .adc, .atHL => .adcA_atHL
  | .adc, .imm n => .adcA_n n
  | .sub, .reg .b => .subB
  | .sub, .reg .c => .subC
  | .sub, .reg .d => .subD
  | .sub, .reg .e => .subE
  | .sub, .reg .h => .subH
  | .sub, .reg .l => .subL
  | .sub, .reg .a => .subA
  | .sub, .atHL => .subAtHL
  | .sub, .imm n => .sub_n n
  | .sbc, .reg .b => .sbcA_B
  | .sbc, .reg .c => .sbcA_C
  | .sbc, .reg .d => .sbcA_D
  | .sbc, .reg .e => .sbcA_E
  | .sbc, .reg .h => .sbcA_H
  | .sbc, .reg .l => .sbcA_L
  | .sbc, .reg .a => .sbcA_A
  | .sbc, .atHL => .sbcA_atHL
  | .sbc, .imm n => .sbcA_n n
  | .and, .reg .b => .andB
  | .and, .reg .c => .andC
  | .and, .reg .d => .andD
  | .and, .reg .e => .andE
  | .and, .reg .h => .andH
  | .and, .reg .l => .andL
  | .and, .reg .a => .andA
  | .and, .atHL => .andAtHL
  | .and, .imm n => .and_n n
  | .xor, .reg .b => .xorB
  | .xor, .reg .c => .xorC
  | .xor, .reg .d => .xorD
  | .xor, .reg .e => .xorE
  | .xor, .reg .h => .xorH
  | .xor, .reg .l => .xorL
  | .xor, .reg .a => .xorA
  | .xor, .atHL => .xorAtHL
  | .xor, .imm n => .xor_n n
  | .or, .reg .b => .orB
  | .or, .reg .c => .orC
  | .or, .reg .d => .orD
  | .or, .reg .e => .orE
  | .or, .reg .h => .orH
  | .or, .reg .l => .orL
  | .or, .reg .a => .orA
  | .or, .atHL => .orAtHL
  | .or, .imm n => .or_n n
  | .cp, .reg .b => .cpB
  | .cp, .reg .c => .cpC
  | .cp, .reg .d => .cpD
  | .cp, .reg .e => .cpE
  | .cp, .reg .h => .cpH
  | .cp, .reg .l => .cpL
  | .cp, .reg .a => .cpA
  | .cp, .atHL => .cpAtHL
  | .cp, .imm n => .cp_n n

/-- `INC r`, `INC (HL)` (R204, R205). -/
def Instr.mkInc8 : Opnd8 → Instr
  | .reg .b => .incB
  | .reg .c => .incC
  | .reg .d => .incD
  | .reg .e => .incE
  | .reg .h => .incH
  | .reg .l => .incL
  | .reg .a => .incA
  | .atHL => .incAtHL

/-- `DEC r`, `DEC (HL)` (R206, R207). -/
def Instr.mkDec8 : Opnd8 → Instr
  | .reg .b => .decB
  | .reg .c => .decC
  | .reg .d => .decD
  | .reg .e => .decE
  | .reg .h => .decH
  | .reg .l => .decL
  | .reg .a => .decA
  | .atHL => .decAtHL

/-- `LD rr,nn` (R169). -/
def Instr.mkLdPairImm : Pair → Word → Instr
  | .bc, nn => .ldBC_nn nn
  | .de, nn => .ldDE_nn nn
  | .hl, nn => .ldHL_nn nn
  | .sp, nn => .ldSP_nn nn

/-- `INC rr` (R221). -/
def Instr.mkIncPair : Pair → Instr
  | .bc => .incBC
  | .de => .incDE
  | .hl => .incHL
  | .sp => .incSP

/-- `DEC rr` (R222). -/
def Instr.mkDecPair : Pair → Instr
  | .bc => .decBC
  | .de => .decDE
  | .hl => .decHL
  | .sp => .decSP

/-- `ADD HL,rr` (R220). -/
def Instr.mkAddHL : Pair → Instr
  | .bc => .addHL_BC
  | .de => .addHL_DE
  | .hl => .addHL_HL
  | .sp => .addHL_SP

/-- `PUSH rr` (R173). -/
def Instr.mkPush : StackPair → Instr
  | .bc => .pushBC
  | .de => .pushDE
  | .hl => .pushHL
  | .af => .pushAF

/-- `POP rr`, `POP AF` (R174, R175). -/
def Instr.mkPop : StackPair → Instr
  | .bc => .popBC
  | .de => .popDE
  | .hl => .popHL
  | .af => .popAF

/-- `JP cc,nn` (R232). -/
def Instr.mkJpCond : Cond → Word → Instr
  | .nz, nn => .jpNZ nn
  | .z, nn => .jpZ nn
  | .nc, nn => .jpNC nn
  | .c, nn => .jpC nn

/-- `JR cc,e` (R235). -/
def Instr.mkJrCond : Cond → Byte → Instr
  | .nz, e => .jrNZ e
  | .z, e => .jrZ e
  | .nc, e => .jrNC e
  | .c, e => .jrC e

/-- `CALL cc,nn` (R237). -/
def Instr.mkCallCond : Cond → Word → Instr
  | .nz, nn => .callNZ nn
  | .z, nn => .callZ nn
  | .nc, nn => .callNC nn
  | .c, nn => .callC nn

/-- `RET cc` (R239). -/
def Instr.mkRetCond : Cond → Instr
  | .nz => .retNZ
  | .z => .retZ
  | .nc => .retNC
  | .c => .retC

/-- `RST t` with t = 8 * y (R241). -/
def Instr.mkRst : Fin 8 → Instr
  | 0 => .rst00
  | 1 => .rst08
  | 2 => .rst10
  | 3 => .rst18
  | 4 => .rst20
  | 5 => .rst28
  | 6 => .rst30
  | 7 => .rst38

/-- The rotates, shifts and SWAP of the extended table, x = 0 (R251 to R266). -/
def Instr.mkRot : RotOp → Opnd8 → Instr
  | .rlc, .reg .b => .rlcB
  | .rlc, .reg .c => .rlcC
  | .rlc, .reg .d => .rlcD
  | .rlc, .reg .e => .rlcE
  | .rlc, .reg .h => .rlcH
  | .rlc, .reg .l => .rlcL
  | .rlc, .reg .a => .rlcA
  | .rlc, .atHL => .rlcAtHL
  | .rrc, .reg .b => .rrcB
  | .rrc, .reg .c => .rrcC
  | .rrc, .reg .d => .rrcD
  | .rrc, .reg .e => .rrcE
  | .rrc, .reg .h => .rrcH
  | .rrc, .reg .l => .rrcL
  | .rrc, .reg .a => .rrcA
  | .rrc, .atHL => .rrcAtHL
  | .rl, .reg .b => .rlB
  | .rl, .reg .c => .rlC
  | .rl, .reg .d => .rlD
  | .rl, .reg .e => .rlE
  | .rl, .reg .h => .rlH
  | .rl, .reg .l => .rlL
  | .rl, .reg .a => .rlA
  | .rl, .atHL => .rlAtHL
  | .rr, .reg .b => .rrB
  | .rr, .reg .c => .rrC
  | .rr, .reg .d => .rrD
  | .rr, .reg .e => .rrE
  | .rr, .reg .h => .rrH
  | .rr, .reg .l => .rrL
  | .rr, .reg .a => .rrA
  | .rr, .atHL => .rrAtHL
  | .sla, .reg .b => .slaB
  | .sla, .reg .c => .slaC
  | .sla, .reg .d => .slaD
  | .sla, .reg .e => .slaE
  | .sla, .reg .h => .slaH
  | .sla, .reg .l => .slaL
  | .sla, .reg .a => .slaA
  | .sla, .atHL => .slaAtHL
  | .sra, .reg .b => .sraB
  | .sra, .reg .c => .sraC
  | .sra, .reg .d => .sraD
  | .sra, .reg .e => .sraE
  | .sra, .reg .h => .sraH
  | .sra, .reg .l => .sraL
  | .sra, .reg .a => .sraA
  | .sra, .atHL => .sraAtHL
  | .swap, .reg .b => .swapB
  | .swap, .reg .c => .swapC
  | .swap, .reg .d => .swapD
  | .swap, .reg .e => .swapE
  | .swap, .reg .h => .swapH
  | .swap, .reg .l => .swapL
  | .swap, .reg .a => .swapA
  | .swap, .atHL => .swapAtHL
  | .srl, .reg .b => .srlB
  | .srl, .reg .c => .srlC
  | .srl, .reg .d => .srlD
  | .srl, .reg .e => .srlE
  | .srl, .reg .h => .srlH
  | .srl, .reg .l => .srlL
  | .srl, .reg .a => .srlA
  | .srl, .atHL => .srlAtHL

/-- `BIT y,r`, `BIT y,(HL)` (R267, R268). -/
def Instr.mkBit : Fin 8 → Opnd8 → Instr
  | 0, .reg .b => .bit0_B
  | 0, .reg .c => .bit0_C
  | 0, .reg .d => .bit0_D
  | 0, .reg .e => .bit0_E
  | 0, .reg .h => .bit0_H
  | 0, .reg .l => .bit0_L
  | 0, .reg .a => .bit0_A
  | 0, .atHL => .bit0_atHL
  | 1, .reg .b => .bit1_B
  | 1, .reg .c => .bit1_C
  | 1, .reg .d => .bit1_D
  | 1, .reg .e => .bit1_E
  | 1, .reg .h => .bit1_H
  | 1, .reg .l => .bit1_L
  | 1, .reg .a => .bit1_A
  | 1, .atHL => .bit1_atHL
  | 2, .reg .b => .bit2_B
  | 2, .reg .c => .bit2_C
  | 2, .reg .d => .bit2_D
  | 2, .reg .e => .bit2_E
  | 2, .reg .h => .bit2_H
  | 2, .reg .l => .bit2_L
  | 2, .reg .a => .bit2_A
  | 2, .atHL => .bit2_atHL
  | 3, .reg .b => .bit3_B
  | 3, .reg .c => .bit3_C
  | 3, .reg .d => .bit3_D
  | 3, .reg .e => .bit3_E
  | 3, .reg .h => .bit3_H
  | 3, .reg .l => .bit3_L
  | 3, .reg .a => .bit3_A
  | 3, .atHL => .bit3_atHL
  | 4, .reg .b => .bit4_B
  | 4, .reg .c => .bit4_C
  | 4, .reg .d => .bit4_D
  | 4, .reg .e => .bit4_E
  | 4, .reg .h => .bit4_H
  | 4, .reg .l => .bit4_L
  | 4, .reg .a => .bit4_A
  | 4, .atHL => .bit4_atHL
  | 5, .reg .b => .bit5_B
  | 5, .reg .c => .bit5_C
  | 5, .reg .d => .bit5_D
  | 5, .reg .e => .bit5_E
  | 5, .reg .h => .bit5_H
  | 5, .reg .l => .bit5_L
  | 5, .reg .a => .bit5_A
  | 5, .atHL => .bit5_atHL
  | 6, .reg .b => .bit6_B
  | 6, .reg .c => .bit6_C
  | 6, .reg .d => .bit6_D
  | 6, .reg .e => .bit6_E
  | 6, .reg .h => .bit6_H
  | 6, .reg .l => .bit6_L
  | 6, .reg .a => .bit6_A
  | 6, .atHL => .bit6_atHL
  | 7, .reg .b => .bit7_B
  | 7, .reg .c => .bit7_C
  | 7, .reg .d => .bit7_D
  | 7, .reg .e => .bit7_E
  | 7, .reg .h => .bit7_H
  | 7, .reg .l => .bit7_L
  | 7, .reg .a => .bit7_A
  | 7, .atHL => .bit7_atHL

/-- `RES y,r`, `RES y,(HL)` (R269, R270). -/
def Instr.mkRes : Fin 8 → Opnd8 → Instr
  | 0, .reg .b => .res0_B
  | 0, .reg .c => .res0_C
  | 0, .reg .d => .res0_D
  | 0, .reg .e => .res0_E
  | 0, .reg .h => .res0_H
  | 0, .reg .l => .res0_L
  | 0, .reg .a => .res0_A
  | 0, .atHL => .res0_atHL
  | 1, .reg .b => .res1_B
  | 1, .reg .c => .res1_C
  | 1, .reg .d => .res1_D
  | 1, .reg .e => .res1_E
  | 1, .reg .h => .res1_H
  | 1, .reg .l => .res1_L
  | 1, .reg .a => .res1_A
  | 1, .atHL => .res1_atHL
  | 2, .reg .b => .res2_B
  | 2, .reg .c => .res2_C
  | 2, .reg .d => .res2_D
  | 2, .reg .e => .res2_E
  | 2, .reg .h => .res2_H
  | 2, .reg .l => .res2_L
  | 2, .reg .a => .res2_A
  | 2, .atHL => .res2_atHL
  | 3, .reg .b => .res3_B
  | 3, .reg .c => .res3_C
  | 3, .reg .d => .res3_D
  | 3, .reg .e => .res3_E
  | 3, .reg .h => .res3_H
  | 3, .reg .l => .res3_L
  | 3, .reg .a => .res3_A
  | 3, .atHL => .res3_atHL
  | 4, .reg .b => .res4_B
  | 4, .reg .c => .res4_C
  | 4, .reg .d => .res4_D
  | 4, .reg .e => .res4_E
  | 4, .reg .h => .res4_H
  | 4, .reg .l => .res4_L
  | 4, .reg .a => .res4_A
  | 4, .atHL => .res4_atHL
  | 5, .reg .b => .res5_B
  | 5, .reg .c => .res5_C
  | 5, .reg .d => .res5_D
  | 5, .reg .e => .res5_E
  | 5, .reg .h => .res5_H
  | 5, .reg .l => .res5_L
  | 5, .reg .a => .res5_A
  | 5, .atHL => .res5_atHL
  | 6, .reg .b => .res6_B
  | 6, .reg .c => .res6_C
  | 6, .reg .d => .res6_D
  | 6, .reg .e => .res6_E
  | 6, .reg .h => .res6_H
  | 6, .reg .l => .res6_L
  | 6, .reg .a => .res6_A
  | 6, .atHL => .res6_atHL
  | 7, .reg .b => .res7_B
  | 7, .reg .c => .res7_C
  | 7, .reg .d => .res7_D
  | 7, .reg .e => .res7_E
  | 7, .reg .h => .res7_H
  | 7, .reg .l => .res7_L
  | 7, .reg .a => .res7_A
  | 7, .atHL => .res7_atHL

/-- `SET y,r`, `SET y,(HL)` (R271, R272). -/
def Instr.mkSet : Fin 8 → Opnd8 → Instr
  | 0, .reg .b => .set0_B
  | 0, .reg .c => .set0_C
  | 0, .reg .d => .set0_D
  | 0, .reg .e => .set0_E
  | 0, .reg .h => .set0_H
  | 0, .reg .l => .set0_L
  | 0, .reg .a => .set0_A
  | 0, .atHL => .set0_atHL
  | 1, .reg .b => .set1_B
  | 1, .reg .c => .set1_C
  | 1, .reg .d => .set1_D
  | 1, .reg .e => .set1_E
  | 1, .reg .h => .set1_H
  | 1, .reg .l => .set1_L
  | 1, .reg .a => .set1_A
  | 1, .atHL => .set1_atHL
  | 2, .reg .b => .set2_B
  | 2, .reg .c => .set2_C
  | 2, .reg .d => .set2_D
  | 2, .reg .e => .set2_E
  | 2, .reg .h => .set2_H
  | 2, .reg .l => .set2_L
  | 2, .reg .a => .set2_A
  | 2, .atHL => .set2_atHL
  | 3, .reg .b => .set3_B
  | 3, .reg .c => .set3_C
  | 3, .reg .d => .set3_D
  | 3, .reg .e => .set3_E
  | 3, .reg .h => .set3_H
  | 3, .reg .l => .set3_L
  | 3, .reg .a => .set3_A
  | 3, .atHL => .set3_atHL
  | 4, .reg .b => .set4_B
  | 4, .reg .c => .set4_C
  | 4, .reg .d => .set4_D
  | 4, .reg .e => .set4_E
  | 4, .reg .h => .set4_H
  | 4, .reg .l => .set4_L
  | 4, .reg .a => .set4_A
  | 4, .atHL => .set4_atHL
  | 5, .reg .b => .set5_B
  | 5, .reg .c => .set5_C
  | 5, .reg .d => .set5_D
  | 5, .reg .e => .set5_E
  | 5, .reg .h => .set5_H
  | 5, .reg .l => .set5_L
  | 5, .reg .a => .set5_A
  | 5, .atHL => .set5_atHL
  | 6, .reg .b => .set6_B
  | 6, .reg .c => .set6_C
  | 6, .reg .d => .set6_D
  | 6, .reg .e => .set6_E
  | 6, .reg .h => .set6_H
  | 6, .reg .l => .set6_L
  | 6, .reg .a => .set6_A
  | 6, .atHL => .set6_atHL
  | 7, .reg .b => .set7_B
  | 7, .reg .c => .set7_C
  | 7, .reg .d => .set7_D
  | 7, .reg .e => .set7_E
  | 7, .reg .h => .set7_H
  | 7, .reg .l => .set7_L
  | 7, .reg .a => .set7_A
  | 7, .atHL => .set7_atHL

/-- The eleven primary opcodes with no instruction (R101, R286). -/
def Instr.undefinedOpcodes : List Instr :=
  [.undefinedD3, .undefinedDB, .undefinedDD, .undefinedE3, .undefinedE4, .undefinedEB, .undefinedEC, .undefinedED, .undefinedF4, .undefinedFC, .undefinedFD]

/-! ## Decoding -/

/-- The primary table as a decode over the fields (R98). `n1` and `n2` are the bytes after the opcode: they are operands
where the row's format has them (R86, R96) and are ignored elsewhere. 0xCB gives the row PREFIX CB. -/
def decodePrimary (op n1 n2 : Byte) : Instr :=
  let y := opY op
  let p := opP op
  let q := opQ op
  let nn := joinBytes n2 n1
  match opX op with
  | 0 =>
    match opZ op with
    | 0 =>
      match y with
      | 0 => .nop
      | 1 => .ldAtNN_SP nn
      | 2 => .stop n1
      | 3 => .jr n1
      | y => .mkJrCond (cc (y - 4)) n1
    | 1 => if q = 0 then .mkLdPairImm (rp p) nn else .mkAddHL (rp p)
    | 2 =>
      match q, p with
      | 0, 0 => .ldAtBC_A
      | 0, 1 => .ldAtDE_A
      | 0, 2 => .ldAtHLinc_A
      | 0, _ => .ldAtHLdec_A
      | _, 0 => .ldA_atBC
      | _, 1 => .ldA_atDE
      | _, 2 => .ldA_atHLinc
      | _, _ => .ldA_atHLdec
    | 3 => if q = 0 then .mkIncPair (rp p) else .mkDecPair (rp p)
    | 4 => .mkInc8 (r8 y)
    | 5 => .mkDec8 (r8 y)
    | 6 =>
      match r8 y with
      | .reg r => .mkLdRegImm r n1
      | .atHL => .ldAtHL_n n1
    | _ =>
      match y with
      | 0 => .rlca
      | 1 => .rrca
      | 2 => .rla
      | 3 => .rra
      | 4 => .daa
      | 5 => .cpl
      | 6 => .scf
      | _ => .ccf
  | 1 =>
    match r8 y, r8 (opZ op) with
    | .reg dst, .reg r => .mkLdRegReg dst r
    | .reg dst, .atHL => .mkLdRegAtHL dst
    | .atHL, .reg r => .mkLdAtHLReg r
    | .atHL, .atHL => .halt
  | 2 => .mkAlu (alu y) (r8 (opZ op)).toSrc
  | _ =>
    match opZ op with
    | 0 =>
      match y with
      | 4 => .ldhAtN_A n1
      | 5 => .addSP_e n1
      | 6 => .ldhA_atN n1
      | 7 => .ldHL_SPe n1
      | y => .mkRetCond (cc y)
    | 1 =>
      match q, p with
      | 0, p => .mkPop (rp2 p)
      | _, 0 => .ret
      | _, 1 => .reti
      | _, 2 => .jpHL
      | _, _ => .ldSP_HL
    | 2 =>
      match y with
      | 4 => .ldAtC_A
      | 5 => .ldAtNN_A nn
      | 6 => .ldA_atC
      | 7 => .ldA_atNN nn
      | y => .mkJpCond (cc y) nn
    | 3 =>
      match y with
      | 0 => .jp nn
      | 1 => .prefixCB
      | 2 => .undefinedD3
      | 3 => .undefinedDB
      | 4 => .undefinedE3
      | 5 => .undefinedEB
      | 6 => .di
      | _ => .ei
    | 4 =>
      match y with
      | 4 => .undefinedE4
      | 5 => .undefinedEC
      | 6 => .undefinedF4
      | 7 => .undefinedFC
      | y => .mkCallCond (cc y) nn
    | 5 =>
      match q, p with
      | 0, p => .mkPush (rp2 p)
      | _, 0 => .call nn
      | _, 1 => .undefinedDD
      | _, 2 => .undefinedED
      | _, _ => .undefinedFD
    | 6 => .mkAlu (alu y) (.imm n1)
    | _ => .mkRst (bitIndex y)

/-- The extended table, byte after 0xCB (R89, R100). -/
def decodeExtended (b : Byte) : Instr :=
  let y := opY b
  let o := r8 (opZ b)
  match opX b with
  | 0 => .mkRot (rot y) o
  | 1 => .mkBit (bitIndex y) o
  | 2 => .mkRes (bitIndex y) o
  | _ => .mkSet (bitIndex y) o

/-- The opcodes of format P2 (R87), STOP among them. -/
def formatP2 : List Byte :=
  [0x06, 0x0E, 0x16, 0x1E, 0x26, 0x2E, 0x36, 0x3E, 0x10, 0x18, 0x20, 0x28, 0x30, 0x38,
   0xC6, 0xCE, 0xD6, 0xDE, 0xE6, 0xEE, 0xF6, 0xFE, 0xE0, 0xF0, 0xE8, 0xF8]

/-- The opcodes of format P3 (R87). -/
def formatP3 : List Byte :=
  [0x01, 0x11, 0x21, 0x31, 0x08, 0xC2, 0xC3, 0xCA, 0xD2, 0xDA, 0xC4, 0xCC, 0xCD, 0xD4, 0xDC, 0xEA, 0xFA]

/-- The prefix opcode, the one opcode of format X2 (R87, R99). -/
def prefixByte : Byte := 0xCB

/-- The length in bytes, a function of byte 0 alone (R87). -/
def instrLength (op : Byte) : Nat :=
  if op ∈ formatP3 then 3 else if op ∈ formatP2 ∨ op = prefixByte then 2 else 1

/-- The instruction that starts at byte `b0`, with the two bytes after it (R107: byte 0 through R98, and for 0xCB byte 1
through R100). Total. -/
def decodeBytes (b0 b1 b2 : Byte) : Instr :=
  if b0 = prefixByte then decodeExtended b1 else decodePrimary b0 b1 b2

/-- Why a finite list of bytes holds no whole instruction. Safe: no fetch of the machine meets either, since memory has a
byte at every address (R60, R66). -/
inductive DecodeError where
  /-- The list is empty. -/
  | noBytes
  /-- The list ends inside the instruction that this opcode starts. -/
  | truncated (opcode : Byte)
deriving DecidableEq, Repr

/-- Decode the first instruction of a list of bytes; answer it with the rest of the list (R107). -/
def decode : List Byte → Except DecodeError (Instr × List Byte)
  | [] => .error .noBytes
  | b0 :: rest =>
    match instrLength b0, rest with
    | 1, rest => .ok (decodeBytes b0 0 0, rest)
    | 2, b1 :: rest => .ok (decodeBytes b0 b1 0, rest)
    | 3, b1 :: b2 :: rest => .ok (decodeBytes b0 b1 b2, rest)
    | _, _ => .error (.truncated b0)

/-! ## Encoding -/

/-- The bytes of an instruction, lowest address first, from the byte maps of R97 and R100 and the formats of R86.
PREFIX CB, which is no whole instruction (WellFormed.lean), has its one selecting byte. -/
def encode : Instr → List Byte
  | .nop => [0x00]
  | .ldBC_nn nn => [0x01, loByte nn, hiByte nn]
  | .ldAtBC_A => [0x02]
  | .incBC => [0x03]
  | .incB => [0x04]
  | .decB => [0x05]
  | .ldB_n n => [0x06, n]
  | .rlca => [0x07]
  | .ldAtNN_SP nn => [0x08, loByte nn, hiByte nn]
  | .addHL_BC => [0x09]
  | .ldA_atBC => [0x0A]
  | .decBC => [0x0B]
  | .incC => [0x0C]
  | .decC => [0x0D]
  | .ldC_n n => [0x0E, n]
  | .rrca => [0x0F]
  | .stop n => [0x10, n]
  | .ldDE_nn nn => [0x11, loByte nn, hiByte nn]
  | .ldAtDE_A => [0x12]
  | .incDE => [0x13]
  | .incD => [0x14]
  | .decD => [0x15]
  | .ldD_n n => [0x16, n]
  | .rla => [0x17]
  | .jr e => [0x18, e]
  | .addHL_DE => [0x19]
  | .ldA_atDE => [0x1A]
  | .decDE => [0x1B]
  | .incE => [0x1C]
  | .decE => [0x1D]
  | .ldE_n n => [0x1E, n]
  | .rra => [0x1F]
  | .jrNZ e => [0x20, e]
  | .ldHL_nn nn => [0x21, loByte nn, hiByte nn]
  | .ldAtHLinc_A => [0x22]
  | .incHL => [0x23]
  | .incH => [0x24]
  | .decH => [0x25]
  | .ldH_n n => [0x26, n]
  | .daa => [0x27]
  | .jrZ e => [0x28, e]
  | .addHL_HL => [0x29]
  | .ldA_atHLinc => [0x2A]
  | .decHL => [0x2B]
  | .incL => [0x2C]
  | .decL => [0x2D]
  | .ldL_n n => [0x2E, n]
  | .cpl => [0x2F]
  | .jrNC e => [0x30, e]
  | .ldSP_nn nn => [0x31, loByte nn, hiByte nn]
  | .ldAtHLdec_A => [0x32]
  | .incSP => [0x33]
  | .incAtHL => [0x34]
  | .decAtHL => [0x35]
  | .ldAtHL_n n => [0x36, n]
  | .scf => [0x37]
  | .jrC e => [0x38, e]
  | .addHL_SP => [0x39]
  | .ldA_atHLdec => [0x3A]
  | .decSP => [0x3B]
  | .incA => [0x3C]
  | .decA => [0x3D]
  | .ldA_n n => [0x3E, n]
  | .ccf => [0x3F]
  | .ldB_B => [0x40]
  | .ldB_C => [0x41]
  | .ldB_D => [0x42]
  | .ldB_E => [0x43]
  | .ldB_H => [0x44]
  | .ldB_L => [0x45]
  | .ldB_atHL => [0x46]
  | .ldB_A => [0x47]
  | .ldC_B => [0x48]
  | .ldC_C => [0x49]
  | .ldC_D => [0x4A]
  | .ldC_E => [0x4B]
  | .ldC_H => [0x4C]
  | .ldC_L => [0x4D]
  | .ldC_atHL => [0x4E]
  | .ldC_A => [0x4F]
  | .ldD_B => [0x50]
  | .ldD_C => [0x51]
  | .ldD_D => [0x52]
  | .ldD_E => [0x53]
  | .ldD_H => [0x54]
  | .ldD_L => [0x55]
  | .ldD_atHL => [0x56]
  | .ldD_A => [0x57]
  | .ldE_B => [0x58]
  | .ldE_C => [0x59]
  | .ldE_D => [0x5A]
  | .ldE_E => [0x5B]
  | .ldE_H => [0x5C]
  | .ldE_L => [0x5D]
  | .ldE_atHL => [0x5E]
  | .ldE_A => [0x5F]
  | .ldH_B => [0x60]
  | .ldH_C => [0x61]
  | .ldH_D => [0x62]
  | .ldH_E => [0x63]
  | .ldH_H => [0x64]
  | .ldH_L => [0x65]
  | .ldH_atHL => [0x66]
  | .ldH_A => [0x67]
  | .ldL_B => [0x68]
  | .ldL_C => [0x69]
  | .ldL_D => [0x6A]
  | .ldL_E => [0x6B]
  | .ldL_H => [0x6C]
  | .ldL_L => [0x6D]
  | .ldL_atHL => [0x6E]
  | .ldL_A => [0x6F]
  | .ldAtHL_B => [0x70]
  | .ldAtHL_C => [0x71]
  | .ldAtHL_D => [0x72]
  | .ldAtHL_E => [0x73]
  | .ldAtHL_H => [0x74]
  | .ldAtHL_L => [0x75]
  | .halt => [0x76]
  | .ldAtHL_A => [0x77]
  | .ldA_B => [0x78]
  | .ldA_C => [0x79]
  | .ldA_D => [0x7A]
  | .ldA_E => [0x7B]
  | .ldA_H => [0x7C]
  | .ldA_L => [0x7D]
  | .ldA_atHL => [0x7E]
  | .ldA_A => [0x7F]
  | .addA_B => [0x80]
  | .addA_C => [0x81]
  | .addA_D => [0x82]
  | .addA_E => [0x83]
  | .addA_H => [0x84]
  | .addA_L => [0x85]
  | .addA_atHL => [0x86]
  | .addA_A => [0x87]
  | .adcA_B => [0x88]
  | .adcA_C => [0x89]
  | .adcA_D => [0x8A]
  | .adcA_E => [0x8B]
  | .adcA_H => [0x8C]
  | .adcA_L => [0x8D]
  | .adcA_atHL => [0x8E]
  | .adcA_A => [0x8F]
  | .subB => [0x90]
  | .subC => [0x91]
  | .subD => [0x92]
  | .subE => [0x93]
  | .subH => [0x94]
  | .subL => [0x95]
  | .subAtHL => [0x96]
  | .subA => [0x97]
  | .sbcA_B => [0x98]
  | .sbcA_C => [0x99]
  | .sbcA_D => [0x9A]
  | .sbcA_E => [0x9B]
  | .sbcA_H => [0x9C]
  | .sbcA_L => [0x9D]
  | .sbcA_atHL => [0x9E]
  | .sbcA_A => [0x9F]
  | .andB => [0xA0]
  | .andC => [0xA1]
  | .andD => [0xA2]
  | .andE => [0xA3]
  | .andH => [0xA4]
  | .andL => [0xA5]
  | .andAtHL => [0xA6]
  | .andA => [0xA7]
  | .xorB => [0xA8]
  | .xorC => [0xA9]
  | .xorD => [0xAA]
  | .xorE => [0xAB]
  | .xorH => [0xAC]
  | .xorL => [0xAD]
  | .xorAtHL => [0xAE]
  | .xorA => [0xAF]
  | .orB => [0xB0]
  | .orC => [0xB1]
  | .orD => [0xB2]
  | .orE => [0xB3]
  | .orH => [0xB4]
  | .orL => [0xB5]
  | .orAtHL => [0xB6]
  | .orA => [0xB7]
  | .cpB => [0xB8]
  | .cpC => [0xB9]
  | .cpD => [0xBA]
  | .cpE => [0xBB]
  | .cpH => [0xBC]
  | .cpL => [0xBD]
  | .cpAtHL => [0xBE]
  | .cpA => [0xBF]
  | .retNZ => [0xC0]
  | .popBC => [0xC1]
  | .jpNZ nn => [0xC2, loByte nn, hiByte nn]
  | .jp nn => [0xC3, loByte nn, hiByte nn]
  | .callNZ nn => [0xC4, loByte nn, hiByte nn]
  | .pushBC => [0xC5]
  | .addA_n n => [0xC6, n]
  | .rst00 => [0xC7]
  | .retZ => [0xC8]
  | .ret => [0xC9]
  | .jpZ nn => [0xCA, loByte nn, hiByte nn]
  | .prefixCB => [0xCB]
  | .callZ nn => [0xCC, loByte nn, hiByte nn]
  | .call nn => [0xCD, loByte nn, hiByte nn]
  | .adcA_n n => [0xCE, n]
  | .rst08 => [0xCF]
  | .retNC => [0xD0]
  | .popDE => [0xD1]
  | .jpNC nn => [0xD2, loByte nn, hiByte nn]
  | .callNC nn => [0xD4, loByte nn, hiByte nn]
  | .pushDE => [0xD5]
  | .sub_n n => [0xD6, n]
  | .rst10 => [0xD7]
  | .retC => [0xD8]
  | .reti => [0xD9]
  | .jpC nn => [0xDA, loByte nn, hiByte nn]
  | .callC nn => [0xDC, loByte nn, hiByte nn]
  | .sbcA_n n => [0xDE, n]
  | .rst18 => [0xDF]
  | .ldhAtN_A n => [0xE0, n]
  | .popHL => [0xE1]
  | .ldAtC_A => [0xE2]
  | .pushHL => [0xE5]
  | .and_n n => [0xE6, n]
  | .rst20 => [0xE7]
  | .addSP_e e => [0xE8, e]
  | .jpHL => [0xE9]
  | .ldAtNN_A nn => [0xEA, loByte nn, hiByte nn]
  | .xor_n n => [0xEE, n]
  | .rst28 => [0xEF]
  | .ldhA_atN n => [0xF0, n]
  | .popAF => [0xF1]
  | .ldA_atC => [0xF2]
  | .di => [0xF3]
  | .pushAF => [0xF5]
  | .or_n n => [0xF6, n]
  | .rst30 => [0xF7]
  | .ldHL_SPe e => [0xF8, e]
  | .ldSP_HL => [0xF9]
  | .ldA_atNN nn => [0xFA, loByte nn, hiByte nn]
  | .ei => [0xFB]
  | .cp_n n => [0xFE, n]
  | .rst38 => [0xFF]
  | .undefinedD3 => [0xD3]
  | .undefinedDB => [0xDB]
  | .undefinedDD => [0xDD]
  | .undefinedE3 => [0xE3]
  | .undefinedE4 => [0xE4]
  | .undefinedEB => [0xEB]
  | .undefinedEC => [0xEC]
  | .undefinedED => [0xED]
  | .undefinedF4 => [0xF4]
  | .undefinedFC => [0xFC]
  | .undefinedFD => [0xFD]
  | .rlcB => [0xCB, 0x00]
  | .rlcC => [0xCB, 0x01]
  | .rlcD => [0xCB, 0x02]
  | .rlcE => [0xCB, 0x03]
  | .rlcH => [0xCB, 0x04]
  | .rlcL => [0xCB, 0x05]
  | .rlcAtHL => [0xCB, 0x06]
  | .rlcA => [0xCB, 0x07]
  | .rrcB => [0xCB, 0x08]
  | .rrcC => [0xCB, 0x09]
  | .rrcD => [0xCB, 0x0A]
  | .rrcE => [0xCB, 0x0B]
  | .rrcH => [0xCB, 0x0C]
  | .rrcL => [0xCB, 0x0D]
  | .rrcAtHL => [0xCB, 0x0E]
  | .rrcA => [0xCB, 0x0F]
  | .rlB => [0xCB, 0x10]
  | .rlC => [0xCB, 0x11]
  | .rlD => [0xCB, 0x12]
  | .rlE => [0xCB, 0x13]
  | .rlH => [0xCB, 0x14]
  | .rlL => [0xCB, 0x15]
  | .rlAtHL => [0xCB, 0x16]
  | .rlA => [0xCB, 0x17]
  | .rrB => [0xCB, 0x18]
  | .rrC => [0xCB, 0x19]
  | .rrD => [0xCB, 0x1A]
  | .rrE => [0xCB, 0x1B]
  | .rrH => [0xCB, 0x1C]
  | .rrL => [0xCB, 0x1D]
  | .rrAtHL => [0xCB, 0x1E]
  | .rrA => [0xCB, 0x1F]
  | .slaB => [0xCB, 0x20]
  | .slaC => [0xCB, 0x21]
  | .slaD => [0xCB, 0x22]
  | .slaE => [0xCB, 0x23]
  | .slaH => [0xCB, 0x24]
  | .slaL => [0xCB, 0x25]
  | .slaAtHL => [0xCB, 0x26]
  | .slaA => [0xCB, 0x27]
  | .sraB => [0xCB, 0x28]
  | .sraC => [0xCB, 0x29]
  | .sraD => [0xCB, 0x2A]
  | .sraE => [0xCB, 0x2B]
  | .sraH => [0xCB, 0x2C]
  | .sraL => [0xCB, 0x2D]
  | .sraAtHL => [0xCB, 0x2E]
  | .sraA => [0xCB, 0x2F]
  | .swapB => [0xCB, 0x30]
  | .swapC => [0xCB, 0x31]
  | .swapD => [0xCB, 0x32]
  | .swapE => [0xCB, 0x33]
  | .swapH => [0xCB, 0x34]
  | .swapL => [0xCB, 0x35]
  | .swapAtHL => [0xCB, 0x36]
  | .swapA => [0xCB, 0x37]
  | .srlB => [0xCB, 0x38]
  | .srlC => [0xCB, 0x39]
  | .srlD => [0xCB, 0x3A]
  | .srlE => [0xCB, 0x3B]
  | .srlH => [0xCB, 0x3C]
  | .srlL => [0xCB, 0x3D]
  | .srlAtHL => [0xCB, 0x3E]
  | .srlA => [0xCB, 0x3F]
  | .bit0_B => [0xCB, 0x40]
  | .bit0_C => [0xCB, 0x41]
  | .bit0_D => [0xCB, 0x42]
  | .bit0_E => [0xCB, 0x43]
  | .bit0_H => [0xCB, 0x44]
  | .bit0_L => [0xCB, 0x45]
  | .bit0_atHL => [0xCB, 0x46]
  | .bit0_A => [0xCB, 0x47]
  | .bit1_B => [0xCB, 0x48]
  | .bit1_C => [0xCB, 0x49]
  | .bit1_D => [0xCB, 0x4A]
  | .bit1_E => [0xCB, 0x4B]
  | .bit1_H => [0xCB, 0x4C]
  | .bit1_L => [0xCB, 0x4D]
  | .bit1_atHL => [0xCB, 0x4E]
  | .bit1_A => [0xCB, 0x4F]
  | .bit2_B => [0xCB, 0x50]
  | .bit2_C => [0xCB, 0x51]
  | .bit2_D => [0xCB, 0x52]
  | .bit2_E => [0xCB, 0x53]
  | .bit2_H => [0xCB, 0x54]
  | .bit2_L => [0xCB, 0x55]
  | .bit2_atHL => [0xCB, 0x56]
  | .bit2_A => [0xCB, 0x57]
  | .bit3_B => [0xCB, 0x58]
  | .bit3_C => [0xCB, 0x59]
  | .bit3_D => [0xCB, 0x5A]
  | .bit3_E => [0xCB, 0x5B]
  | .bit3_H => [0xCB, 0x5C]
  | .bit3_L => [0xCB, 0x5D]
  | .bit3_atHL => [0xCB, 0x5E]
  | .bit3_A => [0xCB, 0x5F]
  | .bit4_B => [0xCB, 0x60]
  | .bit4_C => [0xCB, 0x61]
  | .bit4_D => [0xCB, 0x62]
  | .bit4_E => [0xCB, 0x63]
  | .bit4_H => [0xCB, 0x64]
  | .bit4_L => [0xCB, 0x65]
  | .bit4_atHL => [0xCB, 0x66]
  | .bit4_A => [0xCB, 0x67]
  | .bit5_B => [0xCB, 0x68]
  | .bit5_C => [0xCB, 0x69]
  | .bit5_D => [0xCB, 0x6A]
  | .bit5_E => [0xCB, 0x6B]
  | .bit5_H => [0xCB, 0x6C]
  | .bit5_L => [0xCB, 0x6D]
  | .bit5_atHL => [0xCB, 0x6E]
  | .bit5_A => [0xCB, 0x6F]
  | .bit6_B => [0xCB, 0x70]
  | .bit6_C => [0xCB, 0x71]
  | .bit6_D => [0xCB, 0x72]
  | .bit6_E => [0xCB, 0x73]
  | .bit6_H => [0xCB, 0x74]
  | .bit6_L => [0xCB, 0x75]
  | .bit6_atHL => [0xCB, 0x76]
  | .bit6_A => [0xCB, 0x77]
  | .bit7_B => [0xCB, 0x78]
  | .bit7_C => [0xCB, 0x79]
  | .bit7_D => [0xCB, 0x7A]
  | .bit7_E => [0xCB, 0x7B]
  | .bit7_H => [0xCB, 0x7C]
  | .bit7_L => [0xCB, 0x7D]
  | .bit7_atHL => [0xCB, 0x7E]
  | .bit7_A => [0xCB, 0x7F]
  | .res0_B => [0xCB, 0x80]
  | .res0_C => [0xCB, 0x81]
  | .res0_D => [0xCB, 0x82]
  | .res0_E => [0xCB, 0x83]
  | .res0_H => [0xCB, 0x84]
  | .res0_L => [0xCB, 0x85]
  | .res0_atHL => [0xCB, 0x86]
  | .res0_A => [0xCB, 0x87]
  | .res1_B => [0xCB, 0x88]
  | .res1_C => [0xCB, 0x89]
  | .res1_D => [0xCB, 0x8A]
  | .res1_E => [0xCB, 0x8B]
  | .res1_H => [0xCB, 0x8C]
  | .res1_L => [0xCB, 0x8D]
  | .res1_atHL => [0xCB, 0x8E]
  | .res1_A => [0xCB, 0x8F]
  | .res2_B => [0xCB, 0x90]
  | .res2_C => [0xCB, 0x91]
  | .res2_D => [0xCB, 0x92]
  | .res2_E => [0xCB, 0x93]
  | .res2_H => [0xCB, 0x94]
  | .res2_L => [0xCB, 0x95]
  | .res2_atHL => [0xCB, 0x96]
  | .res2_A => [0xCB, 0x97]
  | .res3_B => [0xCB, 0x98]
  | .res3_C => [0xCB, 0x99]
  | .res3_D => [0xCB, 0x9A]
  | .res3_E => [0xCB, 0x9B]
  | .res3_H => [0xCB, 0x9C]
  | .res3_L => [0xCB, 0x9D]
  | .res3_atHL => [0xCB, 0x9E]
  | .res3_A => [0xCB, 0x9F]
  | .res4_B => [0xCB, 0xA0]
  | .res4_C => [0xCB, 0xA1]
  | .res4_D => [0xCB, 0xA2]
  | .res4_E => [0xCB, 0xA3]
  | .res4_H => [0xCB, 0xA4]
  | .res4_L => [0xCB, 0xA5]
  | .res4_atHL => [0xCB, 0xA6]
  | .res4_A => [0xCB, 0xA7]
  | .res5_B => [0xCB, 0xA8]
  | .res5_C => [0xCB, 0xA9]
  | .res5_D => [0xCB, 0xAA]
  | .res5_E => [0xCB, 0xAB]
  | .res5_H => [0xCB, 0xAC]
  | .res5_L => [0xCB, 0xAD]
  | .res5_atHL => [0xCB, 0xAE]
  | .res5_A => [0xCB, 0xAF]
  | .res6_B => [0xCB, 0xB0]
  | .res6_C => [0xCB, 0xB1]
  | .res6_D => [0xCB, 0xB2]
  | .res6_E => [0xCB, 0xB3]
  | .res6_H => [0xCB, 0xB4]
  | .res6_L => [0xCB, 0xB5]
  | .res6_atHL => [0xCB, 0xB6]
  | .res6_A => [0xCB, 0xB7]
  | .res7_B => [0xCB, 0xB8]
  | .res7_C => [0xCB, 0xB9]
  | .res7_D => [0xCB, 0xBA]
  | .res7_E => [0xCB, 0xBB]
  | .res7_H => [0xCB, 0xBC]
  | .res7_L => [0xCB, 0xBD]
  | .res7_atHL => [0xCB, 0xBE]
  | .res7_A => [0xCB, 0xBF]
  | .set0_B => [0xCB, 0xC0]
  | .set0_C => [0xCB, 0xC1]
  | .set0_D => [0xCB, 0xC2]
  | .set0_E => [0xCB, 0xC3]
  | .set0_H => [0xCB, 0xC4]
  | .set0_L => [0xCB, 0xC5]
  | .set0_atHL => [0xCB, 0xC6]
  | .set0_A => [0xCB, 0xC7]
  | .set1_B => [0xCB, 0xC8]
  | .set1_C => [0xCB, 0xC9]
  | .set1_D => [0xCB, 0xCA]
  | .set1_E => [0xCB, 0xCB]
  | .set1_H => [0xCB, 0xCC]
  | .set1_L => [0xCB, 0xCD]
  | .set1_atHL => [0xCB, 0xCE]
  | .set1_A => [0xCB, 0xCF]
  | .set2_B => [0xCB, 0xD0]
  | .set2_C => [0xCB, 0xD1]
  | .set2_D => [0xCB, 0xD2]
  | .set2_E => [0xCB, 0xD3]
  | .set2_H => [0xCB, 0xD4]
  | .set2_L => [0xCB, 0xD5]
  | .set2_atHL => [0xCB, 0xD6]
  | .set2_A => [0xCB, 0xD7]
  | .set3_B => [0xCB, 0xD8]
  | .set3_C => [0xCB, 0xD9]
  | .set3_D => [0xCB, 0xDA]
  | .set3_E => [0xCB, 0xDB]
  | .set3_H => [0xCB, 0xDC]
  | .set3_L => [0xCB, 0xDD]
  | .set3_atHL => [0xCB, 0xDE]
  | .set3_A => [0xCB, 0xDF]
  | .set4_B => [0xCB, 0xE0]
  | .set4_C => [0xCB, 0xE1]
  | .set4_D => [0xCB, 0xE2]
  | .set4_E => [0xCB, 0xE3]
  | .set4_H => [0xCB, 0xE4]
  | .set4_L => [0xCB, 0xE5]
  | .set4_atHL => [0xCB, 0xE6]
  | .set4_A => [0xCB, 0xE7]
  | .set5_B => [0xCB, 0xE8]
  | .set5_C => [0xCB, 0xE9]
  | .set5_D => [0xCB, 0xEA]
  | .set5_E => [0xCB, 0xEB]
  | .set5_H => [0xCB, 0xEC]
  | .set5_L => [0xCB, 0xED]
  | .set5_atHL => [0xCB, 0xEE]
  | .set5_A => [0xCB, 0xEF]
  | .set6_B => [0xCB, 0xF0]
  | .set6_C => [0xCB, 0xF1]
  | .set6_D => [0xCB, 0xF2]
  | .set6_E => [0xCB, 0xF3]
  | .set6_H => [0xCB, 0xF4]
  | .set6_L => [0xCB, 0xF5]
  | .set6_atHL => [0xCB, 0xF6]
  | .set6_A => [0xCB, 0xF7]
  | .set7_B => [0xCB, 0xF8]
  | .set7_C => [0xCB, 0xF9]
  | .set7_D => [0xCB, 0xFA]
  | .set7_E => [0xCB, 0xFB]
  | .set7_H => [0xCB, 0xFC]
  | .set7_L => [0xCB, 0xFD]
  | .set7_atHL => [0xCB, 0xFE]
  | .set7_A => [0xCB, 0xFF]

/-! ## The host's table words -/

/-- The bytes of a word of spec/opcode_table.json, first byte first (log entry 7). An 8-bit word is the one byte of a
primary row. The table writes its 16-bit words high byte first, 0xCB in the high byte (R106); any other 16-bit or longer
word is read with its first byte in bits 7..0. -/
def tableBytes (nbits w : Nat) : List Byte :=
  let byte (k : Nat) : Byte := BitVec.ofNat 8 (w / 256 ^ k)
  if nbits ≤ 8 then [byte 0]
  else if nbits ≤ 16 then
    if byte 1 = prefixByte then [byte 1, byte 0] else [byte 0, byte 1]
  else [byte 0, byte 1, byte 2]

/-- The same bytes followed by zeros, up to the longest instruction (three bytes). -/
def tableWindow (nbits w : Nat) : List Byte := (tableBytes nbits w ++ [0, 0]).take 3

/-- The instruction the decoder reads from a word of spec/opcode_table.json. A word of one byte selects a row of the
primary table and is read by that table's decode (R98), so 0xCB gives the row PREFIX CB; a longer one is decoded as a
list of bytes (log entry 7). -/
def decodeTableWord (nbits w : Nat) : Option Instr :=
  match tableWindow nbits w with
  | [b0, b1, b2] =>
    if nbits ≤ 8 then some (decodePrimary b0 b1 b2)
    else
      match decode [b0, b1, b2] with
      | .ok (i, _) => some i
      | .error _ => none
  | _ => none

end Sys2Proof
end

