-- ==== Sys2Proof/Config.lean ====
section
/-! DEFINITION. What the spec leaves to an implementation or calls a parameter (00_scope.md R8, 92_eei_decisions.md
"Open parameters"). The other open parameter, INTERRUPT_HOOK, acts on the state: it is the argument of
`Sys2Proof.Machine.stepWith`, its default `Sys2Proof.Machine.interruptHook`. -/

namespace Sys2Proof.Config

/-- MEM0 (20_memory.md R67, D1): what an address holds that nothing has written and no image lists.
DESIGN CHOICE (log entry 1, unsafe): the spec's own default, 0x00 at every address. A platform with other initial
contents is a state whose memory lists them. -/
def mem0 (_address : Nat) : Byte := 0x00#8

/-- The size of the one flat address space (R60). -/
def addressSpace : Nat := 65536

/-- Clock periods per machine cycle (R8, R353). -/
def clockPeriodsPerCycle : Nat := 4

end Sys2Proof.Config
end

