-- ==== Sys2Proof/Machine/State.lean ====
section
/-! DEFINITION. The state of the CORE (10_state.md R49, R51) with its memory (20_memory.md R67), the state after reset
(70_reset_and_hazards.md R345), and the reasons a step could stop. -/

namespace Sys2Proof.Machine

open Sys2Proof

/-- The four status flags (R25). They are the one storage of F: F's byte is the view `State.f` (log entry 4), so that
bits 3:0 of F are always 0 (R26). -/
structure Flags where
  z : Bool
  n : Bool
  h : Bool
  c : Bool
deriving DecidableEq, Repr

/-- Memory: the bytes that differ from `Config.mem0`, as (address, byte) pairs in one canonical form (`Memory.wf`). -/
abbrev Memory := List Host.Cell

/-- The state record of R51 and the memory behind the memory interface (R67, R295). The pairs AF, BC, DE, HL are views of
their halves (R22) and the clock-period counts are four times the machine-cycle counts (R43, R44), so neither is stored. -/
structure State where
  /-- A, the accumulator (R20, R23). -/
  a : Byte
  /-- F, as its four flags (R25). -/
  flags : Flags
  b : Byte
  c : Byte
  d : Byte
  e : Byte
  h : Byte
  l : Byte
  /-- SP (R35). -/
  sp : Word
  /-- PC (R32). -/
  pc : Word
  /-- `interrupts_enabled`, IME (R37). -/
  ime : Bool
  /-- `halted` (R38). -/
  halted : Bool
  /-- `stopped` (R39). -/
  stopped : Bool
  /-- `locked` (R40). -/
  locked : Bool
  /-- `current_opcode` (R41). -/
  currentOpcode : Byte
  /-- `current_extended_opcode` (R42). -/
  currentExtendedOpcode : Byte
  /-- `sys_m`, the system clock in machine cycles, an unbounded natural (R43, D13). -/
  sysM : Nat
  /-- `ins_m`, the instruction clock in machine cycles (R44). -/
  insM : Nat
  /-- The 65,536 bytes of R60 and R67. -/
  mem : Memory
deriving DecidableEq, Repr

/-- The faults of the machine: none. "The CORE raises no exception, trap or fault" (R325), and "No behaviour is `fault`"
(93_implementation_defined.md section 1). Nothing raises one, because there is none to raise. -/
inductive Fault where
deriving DecidableEq, Repr

/-- The refusals of the machine. -/
inductive Refusal where
  /-- An instruction without a meaning, rejected by its mnemonic in `exec`. Raised by nothing: every arm has its meaning.
  It would be safe. -/
  | notModelled (mnemonic : String)
deriving DecidableEq, Repr

/-- What an instruction rule, and a step, answer. -/
abbrev Result := Host.Outcome State Fault Refusal

/-- The state after reset (R49, R345). Memory lists nothing: every byte reads as `Config.mem0` (log entry 1). -/
def State.reset : State where
  a := 0x01
  flags := ⟨true, false, true, true⟩
  b := 0x00
  c := 0x13
  d := 0x00
  e := 0xD8
  h := 0x01
  l := 0x4D
  sp := 0xFFFE
  pc := 0x0100
  ime := false
  halted := false
  stopped := false
  locked := false
  currentOpcode := 0x00
  currentExtendedOpcode := 0x00
  sysM := 0
  insM := 0
  mem := []

end Sys2Proof.Machine
end

