-- ==== Sys2Proof/Machine/Ops.lean ====
section
/-! DEFINITION. The named operations every meaning is built from: memory (20_memory.md), the stack, the operand fetch, the
clocks, the run states, reset, and the interrupt seam. The CORE takes no exception (R325, R330), so there is no exception
entry to share: the one abnormal outcome is `State.lock`, and the return of R331 is the ordinary RETI (Control.lean). -/

namespace Sys2Proof.Machine

open Sys2Proof

/-! ## Memory as data -/

/-- The byte at an address: the listed one, else `Config.mem0` (R67). -/
def Memory.get : Memory → Nat → Byte
  | [], x => Config.mem0 x
  | (k, v) :: m, x => if k = x then v else Memory.get m x

/-- The memory with no entry for `x`. -/
def Memory.erase : Memory → Nat → Memory
  | [], _ => []
  | (k, v) :: m, x => if k = x then Memory.erase m x else (k, v) :: Memory.erase m x

/-- The memory with an entry for `x` put in address order. -/
def Memory.insert : Memory → Nat → Byte → Memory
  | [], x, v => [(x, v)]
  | (k, w) :: m, x, v => if x < k then (x, v) :: (k, w) :: m else (k, w) :: Memory.insert m x v

/-- Write one byte and keep the canonical form: a byte equal to what an unlisted address reads as is not listed. -/
def Memory.set (m : Memory) (x : Nat) (v : Byte) : Memory :=
  if v = Config.mem0 x then Memory.erase m x else Memory.insert (Memory.erase m x) x v

/-- The canonical form from address `lo` up: addresses strictly rising, all inside the address space, and no entry equal
to what an unlisted address reads as. -/
def Memory.wfFrom : Nat → Memory → Bool
  | _, [] => true
  | lo, (k, v) :: m =>
    decide (lo ≤ k) && decide (k < Config.addressSpace) && decide (v ≠ Config.mem0 k) && Memory.wfFrom (k + 1) m

/-- The canonical form of a memory. -/
def Memory.wf (m : Memory) : Bool := Memory.wfFrom 0 m

/-! ## The memory interface -/

/-- `read8` (R62). -/
def State.read8 (s : State) (addr : Word) : Byte := Memory.get s.mem addr.toNat

/-- `write8` (R63). -/
def State.write8 (s : State) (addr : Word) (v : Byte) : State := { s with mem := Memory.set s.mem addr.toNat v }

/-- `read16`: low byte at `addr`, high byte at `addr + 1` modulo 2^16 (R64, R66). -/
def State.read16 (s : State) (addr : Word) : Word := joinBytes (s.read8 (addr + 1)) (s.read8 addr)

/-- `write16`: low byte first, at `addr`; then the high byte, at `addr + 1` modulo 2^16 (R65, R66). -/
def State.write16 (s : State) (addr v : Word) : State := (s.write8 addr (loByte v)).write8 (addr + 1) (hiByte v)

/-- Store a list of bytes from `addr` up, wrapping (the platform's placing of a program, R348). -/
def State.load (s : State) (addr : Word) : List Byte → State
  | [] => s
  | v :: vs => State.load (s.write8 addr v) (addr + 1) vs

/-! ## Fetch and stack primitives -/

/-- `imm8()` (R13): the byte at PC, and the state with PC past it. -/
def State.imm8 (s : State) : Byte × State := (s.read8 s.pc, { s with pc := s.pc + 1 })

/-- `push16(v)` (R71). -/
def State.push16 (s : State) (v : Word) : State := { s with sp := s.sp - 2 }.write16 (s.sp - 2) v

/-- `pop16()` (R72): the word at SP, and the state with SP past it. -/
def State.pop16 (s : State) : Word × State := (s.read16 s.sp, { s with sp := s.sp + 2 })

/-! ## Clocks -/

/-- Charge `n` machine cycles to this dispatch: the loop adds them to both clocks (R15, R300, R301, R309). -/
def State.charge (s : State) (n : Nat) : State := { s with insM := s.insM + n, sysM := s.sysM + n }

/-! ## Run states -/

/-- The loop dispatches nothing while one of the run states is set (R303). -/
def State.idle (s : State) : Bool := s.halted || s.stopped || s.locked

/-- An idle step: one machine cycle on the system clock, nothing else (R303). -/
def State.idleStep (s : State) : State := { s with sysM := s.sysM + 1 }

/-- The lock of an undefined primary opcode (R286, R327): the one abnormal outcome. It saves nothing and transfers no
control. -/
def State.lock (s : State) : State := { s with locked := true }

/-- No run state set: what a fetch needs (R303). Used where an instruction is placed to be run next. -/
def State.wake (s : State) : State := { s with halted := false, stopped := false, locked := false }

/-! ## Reset and the interrupt seam -/

/-- `reset()` called on a running CORE (R345): every register and clock at its reset value, memory untouched (D27). -/
def State.doReset (s : State) : State := { State.reset with mem := s.mem }

/-- The default of INTERRUPT_HOOK (R310, D10): it "changes nothing and charges nothing" (log entry 2). -/
def interruptHook (s : State) : State := s

end Sys2Proof.Machine
end

