-- ==== Sys2Proof/Machine/Operands.lean ====
section
/-! DEFINITION. Every operand form: the register views of 10_state.md R20 to R25, and the operand fields of 30_encoding.md
R90 to R93 and R96. -/

namespace Sys2Proof.Machine

open Sys2Proof

/-! ## F and the pairs (R21, R22, R25) -/

/-- A flag as a number (R11). -/
def flagBit (b : Bool) : Byte := if b then 1 else 0

/-- `x[F]`: Z, N, H, C at bits 7, 6, 5, 4, and bits 3:0 zero (R25, R26). -/
def Flags.toByte (f : Flags) : Byte :=
  (flagBit f.z <<< 7) ||| (flagBit f.n <<< 6) ||| (flagBit f.h <<< 5) ||| (flagBit f.c <<< 4)

/-- `x[F] <- v & 0xF0` (R175): the four flags from bits 7..4; bits 3:0 are dropped. -/
def Flags.ofByte (v : Byte) : Flags := ⟨v.getLsbD 7, v.getLsbD 6, v.getLsbD 5, v.getLsbD 4⟩

/-- `x[F]`. -/
def State.f (s : State) : Byte := s.flags.toByte

/-- `x[AF]`. -/
def State.af (s : State) : Word := joinBytes s.a s.f

/-- `x[BC]`. -/
def State.bc (s : State) : Word := joinBytes s.b s.c

/-- `x[DE]`. -/
def State.de (s : State) : Word := joinBytes s.d s.e

/-- `x[HL]`. -/
def State.hl (s : State) : Word := joinBytes s.h s.l

/-- `x[AF] <- v` (R22, R175). -/
def State.setAF (s : State) (v : Word) : State := { s with a := hiByte v, flags := Flags.ofByte (loByte v) }

/-- `x[BC] <- v` (R22). -/
def State.setBC (s : State) (v : Word) : State := { s with b := hiByte v, c := loByte v }

/-- `x[DE] <- v` (R22). -/
def State.setDE (s : State) (v : Word) : State := { s with d := hiByte v, e := loByte v }

/-- `x[HL] <- v` (R22). -/
def State.setHL (s : State) (v : Word) : State := { s with h := hiByte v, l := loByte v }

/-! ## 8-bit operands (R90) -/

/-- `x[r]`. -/
def State.reg (s : State) : Reg8 → Byte
  | .a => s.a
  | .b => s.b
  | .c => s.c
  | .d => s.d
  | .e => s.e
  | .h => s.h
  | .l => s.l

/-- `x[r] <- v`. -/
def State.setReg (s : State) (r : Reg8) (v : Byte) : State :=
  match r with
  | .a => { s with a := v }
  | .b => { s with b := v }
  | .c => { s with c := v }
  | .d => { s with d := v }
  | .e => { s with e := v }
  | .h => { s with h := v }
  | .l => { s with l := v }

/-- Read an `r8` operand: the register, or the byte at HL. -/
def State.opnd (s : State) : Opnd8 → Byte
  | .reg r => s.reg r
  | .atHL => s.read8 s.hl

/-- Write an `r8` operand. -/
def State.setOpnd (s : State) (o : Opnd8) (v : Byte) : State :=
  match o with
  | .reg r => s.setReg r v
  | .atHL => s.write8 s.hl v

/-- The second operand of an ALU operation (43_arith8.md section 1). -/
def State.src (s : State) : Src8 → Byte
  | .reg r => s.reg r
  | .atHL => s.read8 s.hl
  | .imm n => n

/-! ## 16-bit operands (R91, R92) -/

/-- `x[rp(p)]`. -/
def State.pair (s : State) : Pair → Word
  | .bc => s.bc
  | .de => s.de
  | .hl => s.hl
  | .sp => s.sp

/-- `x[rp(p)] <- v`. -/
def State.setPair (s : State) (p : Pair) (v : Word) : State :=
  match p with
  | .bc => s.setBC v
  | .de => s.setDE v
  | .hl => s.setHL v
  | .sp => { s with sp := v }

/-- `x[rp2(p)]`. -/
def State.stackPair (s : State) : StackPair → Word
  | .bc => s.bc
  | .de => s.de
  | .hl => s.hl
  | .af => s.af

/-- `x[rp2(p)] <- v`. -/
def State.setStackPair (s : State) (p : StackPair) (v : Word) : State :=
  match p with
  | .bc => s.setBC v
  | .de => s.setDE v
  | .hl => s.setHL v
  | .af => s.setAF v

/-! ## Addresses, displacements, conditions (R93, R96) -/

/-- The address `0xFF00 + n` of the LDH and (C) forms (R96, D22). -/
def highPage (n : Byte) : Word := 0xFF00 + n.setWidth 16

/-- `sext_8(e)` as a 16-bit number (R10, R96). -/
def sext8 (e : Byte) : Word := e.signExtend 16

/-- The vector of RST: `y * 8` (R96, D23). -/
def rstVector (y : Fin 8) : Word := BitVec.ofNat 16 (8 * y.val)

/-- Condition evaluation (R230). -/
def condHolds (cond : Cond) (f : Flags) : Bool :=
  match cond with
  | .nz => !f.z
  | .z => f.z
  | .nc => !f.c
  | .c => f.c

end Sys2Proof.Machine
end

