-- ==== Sys2Proof/Machine/Flags.lean ====
section
/-! DEFINITION. The ALU and flag unit (41_alu.md): each function once, from its operands and its explicit carry-in to a
result and the flags it writes. They read no state (R110). -/

namespace Sys2Proof.Machine

open Sys2Proof

/-- The flag tuple `(z, n, h, c)` of R110: each flag written with a value, or kept (`none`). -/
structure FlagWrite where
  z : Option Bool
  n : Option Bool
  h : Option Bool
  c : Option Bool
deriving DecidableEq, Repr

/-- Write each flag that is not `keep` (R110). -/
def Flags.write (f : Flags) (w : FlagWrite) : Flags :=
  ⟨w.z.getD f.z, w.n.getD f.n, w.h.getD f.h, w.c.getD f.c⟩

/-- A carry-in as a number. -/
def carryIn (c : Bool) : Nat := if c then 1 else 0

/-! ## 8-bit arithmetic and logic -/

/-- R111. -/
def add8 (a b : Byte) : Byte × FlagWrite :=
  let s := a.toNat + b.toNat
  let r : Byte := BitVec.ofNat 8 s
  (r, ⟨some (decide (r = 0)), some false, some (decide (a.toNat % 16 + b.toNat % 16 > 0xF)), some (decide (s > 0xFF))⟩)

/-- R112. -/
def adc8 (a b : Byte) (cin : Bool) : Byte × FlagWrite :=
  let s := a.toNat + b.toNat + carryIn cin
  let r : Byte := BitVec.ofNat 8 s
  (r, ⟨some (decide (r = 0)), some false, some (decide (a.toNat % 16 + b.toNat % 16 + carryIn cin > 0xF)),
    some (decide (s > 0xFF))⟩)

/-- R113. -/
def sub8 (a b : Byte) : Byte × FlagWrite :=
  let d : Int := (a.toNat : Int) - b.toNat
  let r : Byte := BitVec.ofInt 8 d
  (r, ⟨some (decide (r = 0)), some true, some (decide (a.toNat % 16 < b.toNat % 16)),
    some (decide (a.toNat < b.toNat))⟩)

/-- R114. -/
def sbc8 (a b : Byte) (cin : Bool) : Byte × FlagWrite :=
  let d : Int := (a.toNat : Int) - b.toNat - carryIn cin
  let r : Byte := BitVec.ofInt 8 d
  (r, ⟨some (decide (r = 0)), some true, some (decide (a.toNat % 16 < b.toNat % 16 + carryIn cin)),
    some (decide (a.toNat < b.toNat + carryIn cin))⟩)

/-- R115. -/
def and8 (a b : Byte) : Byte × FlagWrite :=
  let r := a &&& b
  (r, ⟨some (decide (r = 0)), some false, some true, some false⟩)

/-- R116. -/
def xor8 (a b : Byte) : Byte × FlagWrite :=
  let r := a ^^^ b
  (r, ⟨some (decide (r = 0)), some false, some false, some false⟩)

/-- R117. -/
def or8 (a b : Byte) : Byte × FlagWrite :=
  let r := a ||| b
  (r, ⟨some (decide (r = 0)), some false, some false, some false⟩)

/-- R118: the flags of `sub8`; the result is discarded. -/
def cp8 (a b : Byte) : FlagWrite := (sub8 a b).2

/-- R119. -/
def inc8 (v : Byte) : Byte × FlagWrite :=
  let r : Byte := v + 1
  (r, ⟨some (decide (r = 0)), some false, some (decide (v.toNat % 16 = 0xF)), none⟩)

/-- R120. -/
def dec8 (v : Byte) : Byte × FlagWrite :=
  let r : Byte := v - 1
  (r, ⟨some (decide (r = 0)), some true, some (decide (v.toNat % 16 = 0)), none⟩)

/-! ## 16-bit arithmetic -/

/-- R121. -/
def inc16 (v : Word) : Word := v + 1

/-- R122. -/
def dec16 (v : Word) : Word := v - 1

/-- R123. Z is kept. -/
def add16 (a b : Word) : Word × FlagWrite :=
  let s := a.toNat + b.toNat
  (BitVec.ofNat 16 s,
    ⟨none, some false, some (decide (a.toNat % 4096 + b.toNat % 4096 > 0xFFF)), some (decide (s > 0xFFFF))⟩)

/-- R124: the sum is signed, H and C are those of the unsigned add of the low byte. -/
def add16Signed8 (a : Word) (e : Byte) : Word × FlagWrite :=
  (a + sext8 e,
    ⟨some false, some false, some (decide (a.toNat % 16 + e.toNat % 16 > 0xF)),
      some (decide (a.toNat % 256 + e.toNat > 0xFF))⟩)

/-! ## Rotates, shifts, swap -/

/-- The flags of R125 to R133: Z from the result, N and H zero, C as given. -/
def shiftFlags (r : Byte) (c : Bool) : FlagWrite := ⟨some (decide (r = 0)), some false, some false, some c⟩

/-- R125. -/
def swap8 (v : Byte) : Byte × FlagWrite :=
  let r := (v <<< 4) ||| (v >>> 4)
  (r, shiftFlags r false)

/-- R126. -/
def rlc8 (v : Byte) : Byte × FlagWrite :=
  let r := (v <<< 1) ||| flagBit (v.getLsbD 7)
  (r, shiftFlags r (v.getLsbD 7))

/-- R127. -/
def rrc8 (v : Byte) : Byte × FlagWrite :=
  let r := (v >>> 1) ||| (flagBit (v.getLsbD 0) <<< 7)
  (r, shiftFlags r (v.getLsbD 0))

/-- R128. -/
def rl8 (v : Byte) (cin : Bool) : Byte × FlagWrite :=
  let r := (v <<< 1) ||| flagBit cin
  (r, shiftFlags r (v.getLsbD 7))

/-- R129. -/
def rr8 (v : Byte) (cin : Bool) : Byte × FlagWrite :=
  let r := (v >>> 1) ||| (flagBit cin <<< 7)
  (r, shiftFlags r (v.getLsbD 0))

/-- R131. -/
def sla8 (v : Byte) : Byte × FlagWrite :=
  let r := v <<< 1
  (r, shiftFlags r (v.getLsbD 7))

/-- R132. -/
def sra8 (v : Byte) : Byte × FlagWrite :=
  let r := (v >>> 1) ||| (v &&& 0x80)
  (r, shiftFlags r (v.getLsbD 0))

/-- R133. -/
def srl8 (v : Byte) : Byte × FlagWrite :=
  let r := v >>> 1
  (r, shiftFlags r (v.getLsbD 0))

/-- R130: the accumulator-only variants force Z to 0. -/
def clearZ (out : Byte × FlagWrite) : Byte × FlagWrite := (out.1, { out.2 with z := some false })

/-! ## Bit operations -/

/-- R134. -/
def bit8 (v : Byte) (i : Fin 8) : FlagWrite := ⟨some (!v.getLsbD i.val), some false, some true, none⟩

/-- R135. -/
def set8 (v : Byte) (i : Fin 8) : Byte := v ||| ((1 : Byte) <<< i.val)

/-- R136. -/
def res8 (v : Byte) (i : Fin 8) : Byte := v &&& ~~~((1 : Byte) <<< i.val)

/-! ## Accumulator adjust and carry operations -/

/-- R137, with the two tests of the addition branch in the spec's order. -/
def daa8 (a : Byte) (nin hin cin : Bool) : Byte × FlagWrite :=
  let addHigh : Bool := cin || decide (a.toNat > 0x99)
  let addLow : Bool := hin || decide (a.toNat % 16 > 9)
  let r : Byte :=
    if nin then (a - if cin then 0x60 else 0) - if hin then 0x06 else 0
    else (a + if addHigh then 0x60 else 0) + if addLow then 0x06 else 0
  let c : Bool := if nin then cin else addHigh
  (r, ⟨some (decide (r = 0)), none, some false, some c⟩)

/-- R138. -/
def cpl8 (a : Byte) : Byte × FlagWrite := (~~~a, ⟨none, some true, some true, none⟩)

/-- R139. -/
def ccfFlags (cin : Bool) : FlagWrite := ⟨none, some false, some false, some (!cin)⟩

/-- R140. -/
def scfFlags : FlagWrite := ⟨none, some false, some false, some true⟩

/-! ## Which function an operation field names -/

/-- The ALU function of `alu(y)` (R94); for CP the result is the first operand unchanged (R118). -/
def aluFunction (op : AluOp) (a b : Byte) (cin : Bool) : Byte × FlagWrite :=
  match op with
  | .add => add8 a b
  | .adc => adc8 a b cin
  | .sub => sub8 a b
  | .sbc => sbc8 a b cin
  | .and => and8 a b
  | .xor => xor8 a b
  | .or => or8 a b
  | .cp => (a, cp8 a b)

/-- The function of `rot(y)` (R95, R274). -/
def rotFunction (op : RotOp) (v : Byte) (cin : Bool) : Byte × FlagWrite :=
  match op with
  | .rlc => rlc8 v
  | .rrc => rrc8 v
  | .rl => rl8 v cin
  | .rr => rr8 v cin
  | .sla => sla8 v
  | .sra => sra8 v
  | .swap => swap8 v
  | .srl => srl8 v

/-- Write the flags of a state (R110). -/
def State.writeFlags (s : State) (w : FlagWrite) : State := { s with flags := s.flags.write w }

/-- Write A and the flags: "applies f" (43_arith8.md). -/
def State.applyToA (s : State) (out : Byte × FlagWrite) : State :=
  { s with a := out.1, flags := s.flags.write out.2 }

end Sys2Proof.Machine
end

