-- ==== Sys2Proof/Machine/Arith16.lean ====
section
/-! DEFINITION. 16-bit arithmetic (44_arith16.md R220 to R223): the shared operations, then one meaning per table row. -/

namespace Sys2Proof.Machine

open Sys2Proof

/-! ## Shared operations -/

/-- R220. -/
def addHL (p : Pair) (s : State) : Result :=
  let out := add16 s.hl (s.pair p)
  .next (((s.setHL out.1).writeFlags out.2).charge 2)

/-- R221. -/
def incPair (p : Pair) (s : State) : Result := .next ((s.setPair p (inc16 (s.pair p))).charge 2)

/-- R222. -/
def decPair (p : Pair) (s : State) : Result := .next ((s.setPair p (dec16 (s.pair p))).charge 2)

/-! ## One meaning per row -/

/-- `INC BC`, 03 (R221). -/
def execIncBC (s : State) : Result :=
  incPair .bc s

/-- `ADD HL,BC`, 09 (R220). -/
def execAddHL_BC (s : State) : Result :=
  addHL .bc s

/-- `DEC BC`, 0B (R222). -/
def execDecBC (s : State) : Result :=
  decPair .bc s

/-- `INC DE`, 13 (R221). -/
def execIncDE (s : State) : Result :=
  incPair .de s

/-- `ADD HL,DE`, 19 (R220). -/
def execAddHL_DE (s : State) : Result :=
  addHL .de s

/-- `DEC DE`, 1B (R222). -/
def execDecDE (s : State) : Result :=
  decPair .de s

/-- `INC HL`, 23 (R221). -/
def execIncHL (s : State) : Result :=
  incPair .hl s

/-- `ADD HL,HL`, 29 (R220). -/
def execAddHL_HL (s : State) : Result :=
  addHL .hl s

/-- `DEC HL`, 2B (R222). -/
def execDecHL (s : State) : Result :=
  decPair .hl s

/-- `INC SP`, 33 (R221). -/
def execIncSP (s : State) : Result :=
  incPair .sp s

/-- `ADD HL,SP`, 39 (R220). -/
def execAddHL_SP (s : State) : Result :=
  addHL .sp s

/-- `DEC SP`, 3B (R222). -/
def execDecSP (s : State) : Result :=
  decPair .sp s

/-- `ADD SP,e`, E8 (R223). -/
def execAddSP_e (e : Byte) (s : State) : Result :=
  let out := add16Signed8 s.sp e
  .next (({ s with sp := out.1 }.writeFlags out.2).charge 4)

end Sys2Proof.Machine
end

