-- ==== Sys2Proof/Machine/Arith8.lean ====
section
/-! DEFINITION. 8-bit arithmetic, logic, increment, decrement and accumulator operations (43_arith8.md R180 to R215): the
shared operations, then one meaning per table row. -/

namespace Sys2Proof.Machine

open Sys2Proof

/-! ## Shared operations -/

/-- The cycles of the three operand forms of an ALU operation (43_arith8.md section 1). -/
def srcCycles : Src8 → Nat
  | .reg _ => 1
  | .atHL => 2
  | .imm _ => 2

/-- The eight ALU operations (R180 to R203): apply the function to A and the operand, write A and the flags. CP writes A
with its own value, which leaves it unchanged (R118, R201). -/
def aluOp (op : AluOp) (src : Src8) (s : State) : Result :=
  .next ((s.applyToA (aluFunction op s.a (s.src src) s.flags.c)).charge (srcCycles src))

/-- The cycles of INC and DEC on an `r8` operand (R204 to R207). -/
def opndStepCycles : Opnd8 → Nat
  | .reg _ => 1
  | .atHL => 3

/-- Write an `r8` operand and the flags. -/
def State.applyToOpnd (s : State) (o : Opnd8) (out : Byte × FlagWrite) : State := (s.setOpnd o out.1).writeFlags out.2

/-- R204, R205. -/
def incOpnd (o : Opnd8) (s : State) : Result :=
  .next ((s.applyToOpnd o (inc8 (s.opnd o))).charge (opndStepCycles o))

/-- R206, R207. -/
def decOpnd (o : Opnd8) (s : State) : Result :=
  .next ((s.applyToOpnd o (dec8 (s.opnd o))).charge (opndStepCycles o))

/-- An accumulator operation of one cycle (R208, R209, R212 to R215). -/
def accOp (out : Byte × FlagWrite) (s : State) : Result := .next ((s.applyToA out).charge 1)

/-! ## One meaning per row -/

/-- `INC B`, 04 (R204). -/
def execIncB (s : State) : Result :=
  incOpnd (.reg .b) s

/-- `DEC B`, 05 (R206). -/
def execDecB (s : State) : Result :=
  decOpnd (.reg .b) s

/-- `RLCA`, 07 (R212). -/
def execRlca (s : State) : Result :=
  accOp (clearZ (rlc8 s.a)) s

/-- `INC C`, 0C (R204). -/
def execIncC (s : State) : Result :=
  incOpnd (.reg .c) s

/-- `DEC C`, 0D (R206). -/
def execDecC (s : State) : Result :=
  decOpnd (.reg .c) s

/-- `RRCA`, 0F (R213). -/
def execRrca (s : State) : Result :=
  accOp (clearZ (rrc8 s.a)) s

/-- `INC D`, 14 (R204). -/
def execIncD (s : State) : Result :=
  incOpnd (.reg .d) s

/-- `DEC D`, 15 (R206). -/
def execDecD (s : State) : Result :=
  decOpnd (.reg .d) s

/-- `RLA`, 17 (R214). -/
def execRla (s : State) : Result :=
  accOp (clearZ (rl8 s.a s.flags.c)) s

/-- `INC E`, 1C (R204). -/
def execIncE (s : State) : Result :=
  incOpnd (.reg .e) s

/-- `DEC E`, 1D (R206). -/
def execDecE (s : State) : Result :=
  decOpnd (.reg .e) s

/-- `RRA`, 1F (R215). -/
def execRra (s : State) : Result :=
  accOp (clearZ (rr8 s.a s.flags.c)) s

/-- `INC H`, 24 (R204). -/
def execIncH (s : State) : Result :=
  incOpnd (.reg .h) s

/-- `DEC H`, 25 (R206). -/
def execDecH (s : State) : Result :=
  decOpnd (.reg .h) s

/-- `DAA`, 27 (R208). -/
def execDaa (s : State) : Result :=
  accOp (daa8 s.a s.flags.n s.flags.h s.flags.c) s

/-- `INC L`, 2C (R204). -/
def execIncL (s : State) : Result :=
  incOpnd (.reg .l) s

/-- `DEC L`, 2D (R206). -/
def execDecL (s : State) : Result :=
  decOpnd (.reg .l) s

/-- `CPL`, 2F (R209). -/
def execCpl (s : State) : Result :=
  accOp (cpl8 s.a) s

/-- `INC (HL)`, 34 (R205). -/
def execIncAtHL (s : State) : Result :=
  incOpnd .atHL s

/-- `DEC (HL)`, 35 (R207). -/
def execDecAtHL (s : State) : Result :=
  decOpnd .atHL s

/-- `SCF`, 37 (R210). -/
def execScf (s : State) : Result :=
  .next ((s.writeFlags scfFlags).charge 1)

/-- `INC A`, 3C (R204). -/
def execIncA (s : State) : Result :=
  incOpnd (.reg .a) s

/-- `DEC A`, 3D (R206). -/
def execDecA (s : State) : Result :=
  decOpnd (.reg .a) s

/-- `CCF`, 3F (R211). -/
def execCcf (s : State) : Result :=
  .next ((s.writeFlags (ccfFlags s.flags.c)).charge 1)

/-- `ADD A,B`, 80 (R180). -/
def execAddA_B (s : State) : Result :=
  aluOp .add (.reg .b) s

/-- `ADD A,C`, 81 (R180). -/
def execAddA_C (s : State) : Result :=
  aluOp .add (.reg .c) s

/-- `ADD A,D`, 82 (R180). -/
def execAddA_D (s : State) : Result :=
  aluOp .add (.reg .d) s

/-- `ADD A,E`, 83 (R180). -/
def execAddA_E (s : State) : Result :=
  aluOp .add (.reg .e) s

/-- `ADD A,H`, 84 (R180). -/
def execAddA_H (s : State) : Result :=
  aluOp .add (.reg .h) s

/-- `ADD A,L`, 85 (R180). -/
def execAddA_L (s : State) : Result :=
  aluOp .add (.reg .l) s

/-- `ADD A,(HL)`, 86 (R181). -/
def execAddA_atHL (s : State) : Result :=
  aluOp .add .atHL s

/-- `ADD A,A`, 87 (R180). -/
def execAddA_A (s : State) : Result :=
  aluOp .add (.reg .a) s

/-- `ADC A,B`, 88 (R183). -/
def execAdcA_B (s : State) : Result :=
  aluOp .adc (.reg .b) s

/-- `ADC A,C`, 89 (R183). -/
def execAdcA_C (s : State) : Result :=
  aluOp .adc (.reg .c) s

/-- `ADC A,D`, 8A (R183). -/
def execAdcA_D (s : State) : Result :=
  aluOp .adc (.reg .d) s

/-- `ADC A,E`, 8B (R183). -/
def execAdcA_E (s : State) : Result :=
  aluOp .adc (.reg .e) s

/-- `ADC A,H`, 8C (R183). -/
def execAdcA_H (s : State) : Result :=
  aluOp .adc (.reg .h) s

/-- `ADC A,L`, 8D (R183). -/
def execAdcA_L (s : State) : Result :=
  aluOp .adc (.reg .l) s

/-- `ADC A,(HL)`, 8E (R184). -/
def execAdcA_atHL (s : State) : Result :=
  aluOp .adc .atHL s

/-- `ADC A,A`, 8F (R183). -/
def execAdcA_A (s : State) : Result :=
  aluOp .adc (.reg .a) s

/-- `SUB B`, 90 (R186). -/
def execSubB (s : State) : Result :=
  aluOp .sub (.reg .b) s

/-- `SUB C`, 91 (R186). -/
def execSubC (s : State) : Result :=
  aluOp .sub (.reg .c) s

/-- `SUB D`, 92 (R186). -/
def execSubD (s : State) : Result :=
  aluOp .sub (.reg .d) s

/-- `SUB E`, 93 (R186). -/
def execSubE (s : State) : Result :=
  aluOp .sub (.reg .e) s

/-- `SUB H`, 94 (R186). -/
def execSubH (s : State) : Result :=
  aluOp .sub (.reg .h) s

/-- `SUB L`, 95 (R186). -/
def execSubL (s : State) : Result :=
  aluOp .sub (.reg .l) s

/-- `SUB (HL)`, 96 (R187). -/
def execSubAtHL (s : State) : Result :=
  aluOp .sub .atHL s

/-- `SUB A`, 97 (R186). -/
def execSubA (s : State) : Result :=
  aluOp .sub (.reg .a) s

/-- `SBC A,B`, 98 (R189). -/
def execSbcA_B (s : State) : Result :=
  aluOp .sbc (.reg .b) s

/-- `SBC A,C`, 99 (R189). -/
def execSbcA_C (s : State) : Result :=
  aluOp .sbc (.reg .c) s

/-- `SBC A,D`, 9A (R189). -/
def execSbcA_D (s : State) : Result :=
  aluOp .sbc (.reg .d) s

/-- `SBC A,E`, 9B (R189). -/
def execSbcA_E (s : State) : Result :=
  aluOp .sbc (.reg .e) s

/-- `SBC A,H`, 9C (R189). -/
def execSbcA_H (s : State) : Result :=
  aluOp .sbc (.reg .h) s

/-- `SBC A,L`, 9D (R189). -/
def execSbcA_L (s : State) : Result :=
  aluOp .sbc (.reg .l) s

/-- `SBC A,(HL)`, 9E (R190). -/
def execSbcA_atHL (s : State) : Result :=
  aluOp .sbc .atHL s

/-- `SBC A,A`, 9F (R189). -/
def execSbcA_A (s : State) : Result :=
  aluOp .sbc (.reg .a) s

/-- `AND B`, A0 (R192). -/
def execAndB (s : State) : Result :=
  aluOp .and (.reg .b) s

/-- `AND C`, A1 (R192). -/
def execAndC (s : State) : Result :=
  aluOp .and (.reg .c) s

/-- `AND D`, A2 (R192). -/
def execAndD (s : State) : Result :=
  aluOp .and (.reg .d) s

/-- `AND E`, A3 (R192). -/
def execAndE (s : State) : Result :=
  aluOp .and (.reg .e) s

/-- `AND H`, A4 (R192). -/
def execAndH (s : State) : Result :=
  aluOp .and (.reg .h) s

/-- `AND L`, A5 (R192). -/
def execAndL (s : State) : Result :=
  aluOp .and (.reg .l) s

/-- `AND (HL)`, A6 (R193). -/
def execAndAtHL (s : State) : Result :=
  aluOp .and .atHL s

/-- `AND A`, A7 (R192). -/
def execAndA (s : State) : Result :=
  aluOp .and (.reg .a) s

/-- `XOR B`, A8 (R195). -/
def execXorB (s : State) : Result :=
  aluOp .xor (.reg .b) s

/-- `XOR C`, A9 (R195). -/
def execXorC (s : State) : Result :=
  aluOp .xor (.reg .c) s

/-- `XOR D`, AA (R195). -/
def execXorD (s : State) : Result :=
  aluOp .xor (.reg .d) s

/-- `XOR E`, AB (R195). -/
def execXorE (s : State) : Result :=
  aluOp .xor (.reg .e) s

/-- `XOR H`, AC (R195). -/
def execXorH (s : State) : Result :=
  aluOp .xor (.reg .h) s

/-- `XOR L`, AD (R195). -/
def execXorL (s : State) : Result :=
  aluOp .xor (.reg .l) s

/-- `XOR (HL)`, AE (R196). -/
def execXorAtHL (s : State) : Result :=
  aluOp .xor .atHL s

/-- `XOR A`, AF (R195). -/
def execXorA (s : State) : Result :=
  aluOp .xor (.reg .a) s

/-- `OR B`, B0 (R198). -/
def execOrB (s : State) : Result :=
  aluOp .or (.reg .b) s

/-- `OR C`, B1 (R198). -/
def execOrC (s : State) : Result :=
  aluOp .or (.reg .c) s

/-- `OR D`, B2 (R198). -/
def execOrD (s : State) : Result :=
  aluOp .or (.reg .d) s

/-- `OR E`, B3 (R198). -/
def execOrE (s : State) : Result :=
  aluOp .or (.reg .e) s

/-- `OR H`, B4 (R198). -/
def execOrH (s : State) : Result :=
  aluOp .or (.reg .h) s

/-- `OR L`, B5 (R198). -/
def execOrL (s : State) : Result :=
  aluOp .or (.reg .l) s

/-- `OR (HL)`, B6 (R199). -/
def execOrAtHL (s : State) : Result :=
  aluOp .or .atHL s

/-- `OR A`, B7 (R198). -/
def execOrA (s : State) : Result :=
  aluOp .or (.reg .a) s

/-- `CP B`, B8 (R201). -/
def execCpB (s : State) : Result :=
  aluOp .cp (.reg .b) s

/-- `CP C`, B9 (R201). -/
def execCpC (s : State) : Result :=
  aluOp .cp (.reg .c) s

/-- `CP D`, BA (R201). -/
def execCpD (s : State) : Result :=
  aluOp .cp (.reg .d) s

/-- `CP E`, BB (R201). -/
def execCpE (s : State) : Result :=
  aluOp .cp (.reg .e) s

/-- `CP H`, BC (R201). -/
def execCpH (s : State) : Result :=
  aluOp .cp (.reg .h) s

/-- `CP L`, BD (R201). -/
def execCpL (s : State) : Result :=
  aluOp .cp (.reg .l) s

/-- `CP (HL)`, BE (R202). -/
def execCpAtHL (s : State) : Result :=
  aluOp .cp .atHL s

/-- `CP A`, BF (R201). -/
def execCpA (s : State) : Result :=
  aluOp .cp (.reg .a) s

/-- `ADD A,n`, C6 (R182). -/
def execAddA_n (n : Byte) (s : State) : Result :=
  aluOp .add (.imm n) s

/-- `ADC A,n`, CE (R185). -/
def execAdcA_n (n : Byte) (s : State) : Result :=
  aluOp .adc (.imm n) s

/-- `SUB n`, D6 (R188). -/
def execSub_n (n : Byte) (s : State) : Result :=
  aluOp .sub (.imm n) s

/-- `SBC A,n`, DE (R191). -/
def execSbcA_n (n : Byte) (s : State) : Result :=
  aluOp .sbc (.imm n) s

/-- `AND n`, E6 (R194). -/
def execAnd_n (n : Byte) (s : State) : Result :=
  aluOp .and (.imm n) s

/-- `XOR n`, EE (R197). -/
def execXor_n (n : Byte) (s : State) : Result :=
  aluOp .xor (.imm n) s

/-- `OR n`, F6 (R200). -/
def execOr_n (n : Byte) (s : State) : Result :=
  aluOp .or (.imm n) s

/-- `CP n`, FE (R203). -/
def execCp_n (n : Byte) (s : State) : Result :=
  aluOp .cp (.imm n) s

end Sys2Proof.Machine
end

