-- ==== Sys2Proof/Machine/Control.lean ====
section
/-! DEFINITION. Jumps, calls and returns (45_control.md R230 to R241): the shared operations, then one meaning per table
row. PC is the address after the instruction when a meaning runs (R32), so that CALL and RST push it and JR adds to it. -/

namespace Sys2Proof.Machine

open Sys2Proof

/-! ## Shared operations -/

/-- `pc <- target`. -/
def jumpTo (target : Word) (cycles : Nat) (s : State) : Result := .next ({ s with pc := target }.charge cycles)

/-- `push16(pc); pc <- target` (R236, R237, R241). -/
def callTo (target : Word) (cycles : Nat) (s : State) : Result :=
  .next ({ s.push16 s.pc with pc := target }.charge cycles)

/-- `pc <- pop16()` (R238, R239, R240). -/
def returnFrom (cycles : Nat) (s : State) : Result :=
  let (v, t) := s.pop16
  .next ({ t with pc := v }.charge cycles)

/-- R232. -/
def jumpCond (cond : Cond) (nn : Word) (s : State) : Result :=
  if condHolds cond s.flags then jumpTo nn 4 s else .next (s.charge 3)

/-- R235. -/
def jumpRelCond (cond : Cond) (e : Byte) (s : State) : Result :=
  if condHolds cond s.flags then jumpTo (s.pc + sext8 e) 3 s else .next (s.charge 2)

/-- R237. -/
def callCond (cond : Cond) (nn : Word) (s : State) : Result :=
  if condHolds cond s.flags then callTo nn 6 s else .next (s.charge 3)

/-- R239. -/
def retCond (cond : Cond) (s : State) : Result :=
  if condHolds cond s.flags then returnFrom 5 s else .next (s.charge 2)

/-- R241. -/
def restart (y : Fin 8) (s : State) : Result := callTo (rstVector y) 4 s

/-! ## One meaning per row -/

/-- `JR e`, 18 (R234). -/
def execJr (e : Byte) (s : State) : Result :=
  jumpTo (s.pc + sext8 e) 3 s

/-- `JR NZ,e`, 20 (R235). -/
def execJrNZ (e : Byte) (s : State) : Result :=
  jumpRelCond .nz e s

/-- `JR Z,e`, 28 (R235). -/
def execJrZ (e : Byte) (s : State) : Result :=
  jumpRelCond .z e s

/-- `JR NC,e`, 30 (R235). -/
def execJrNC (e : Byte) (s : State) : Result :=
  jumpRelCond .nc e s

/-- `JR C,e`, 38 (R235). -/
def execJrC (e : Byte) (s : State) : Result :=
  jumpRelCond .c e s

/-- `RET NZ`, C0 (R239). -/
def execRetNZ (s : State) : Result :=
  retCond .nz s

/-- `JP NZ,nn`, C2 (R232). -/
def execJpNZ (nn : Word) (s : State) : Result :=
  jumpCond .nz nn s

/-- `JP nn`, C3 (R231). -/
def execJp (nn : Word) (s : State) : Result :=
  jumpTo nn 4 s

/-- `CALL NZ,nn`, C4 (R237). -/
def execCallNZ (nn : Word) (s : State) : Result :=
  callCond .nz nn s

/-- `RST 00H`, C7 (R241). -/
def execRst00 (s : State) : Result :=
  restart 0 s

/-- `RET Z`, C8 (R239). -/
def execRetZ (s : State) : Result :=
  retCond .z s

/-- `RET`, C9 (R238). -/
def execRet (s : State) : Result :=
  returnFrom 4 s

/-- `JP Z,nn`, CA (R232). -/
def execJpZ (nn : Word) (s : State) : Result :=
  jumpCond .z nn s

/-- `CALL Z,nn`, CC (R237). -/
def execCallZ (nn : Word) (s : State) : Result :=
  callCond .z nn s

/-- `CALL nn`, CD (R236). -/
def execCall (nn : Word) (s : State) : Result :=
  callTo nn 6 s

/-- `RST 08H`, CF (R241). -/
def execRst08 (s : State) : Result :=
  restart 1 s

/-- `RET NC`, D0 (R239). -/
def execRetNC (s : State) : Result :=
  retCond .nc s

/-- `JP NC,nn`, D2 (R232). -/
def execJpNC (nn : Word) (s : State) : Result :=
  jumpCond .nc nn s

/-- `CALL NC,nn`, D4 (R237). -/
def execCallNC (nn : Word) (s : State) : Result :=
  callCond .nc nn s

/-- `RST 10H`, D7 (R241). -/
def execRst10 (s : State) : Result :=
  restart 2 s

/-- `RET C`, D8 (R239). -/
def execRetC (s : State) : Result :=
  retCond .c s

/-- `RETI`, D9 (R240). -/
def execReti (s : State) : Result :=
  returnFrom 4 { s with ime := true }

/-- `JP C,nn`, DA (R232). -/
def execJpC (nn : Word) (s : State) : Result :=
  jumpCond .c nn s

/-- `CALL C,nn`, DC (R237). -/
def execCallC (nn : Word) (s : State) : Result :=
  callCond .c nn s

/-- `RST 18H`, DF (R241). -/
def execRst18 (s : State) : Result :=
  restart 3 s

/-- `RST 20H`, E7 (R241). -/
def execRst20 (s : State) : Result :=
  restart 4 s

/-- `JP HL`, E9 (R233). -/
def execJpHL (s : State) : Result :=
  jumpTo s.hl 1 s

/-- `RST 28H`, EF (R241). -/
def execRst28 (s : State) : Result :=
  restart 5 s

/-- `RST 30H`, F7 (R241). -/
def execRst30 (s : State) : Result :=
  restart 6 s

/-- `RST 38H`, FF (R241). -/
def execRst38 (s : State) : Result :=
  restart 7 s

end Sys2Proof.Machine
end

