-- ==== Sys2Proof/Machine/Extended.lean ====
section
/-! DEFINITION. The extended (0xCB-prefixed) instructions (46_cb.md R250 to R274): the shared operations, the dispatch of an
extended opcode byte (R250), then one meaning per table row. `current_extended_opcode` is written by whoever fetches the
extended byte (R42, R285): Fetch.lean, or the meaning of the row PREFIX CB. -/

namespace Sys2Proof.Machine

open Sys2Proof

/-! ## Shared operations -/

/-- The cycles of an extended instruction that writes its operand (R250, R307). -/
def opndWriteCycles : Opnd8 → Nat
  | .reg _ => 2
  | .atHL => 4

/-- The cycles of BIT (R250, R268, R307). -/
def opndTestCycles : Opnd8 → Nat
  | .reg _ => 2
  | .atHL => 3

/-- The rotates, shifts and SWAP (R251 to R266, R274). -/
def rotOp (op : RotOp) (o : Opnd8) (s : State) : Result :=
  .next ((s.applyToOpnd o (rotFunction op (s.opnd o) s.flags.c)).charge (opndWriteCycles o))

/-- R267, R268: the operand is read and not written. -/
def bitOp (i : Fin 8) (o : Opnd8) (s : State) : Result :=
  .next ((s.writeFlags (bit8 (s.opnd o) i)).charge (opndTestCycles o))

/-- R269, R270. -/
def resOp (i : Fin 8) (o : Opnd8) (s : State) : Result :=
  .next ((s.setOpnd o (res8 (s.opnd o) i)).charge (opndWriteCycles o))

/-- R271, R272. -/
def setOp (i : Fin 8) (o : Opnd8) (s : State) : Result :=
  .next ((s.setOpnd o (set8 (s.opnd o) i)).charge (opndWriteCycles o))

/-- Extended dispatch (R250): run the rule that the fields of the extended opcode select. -/
def execExtended (b : Byte) (s : State) : Result :=
  match opX b with
  | 0 => rotOp (rot (opY b)) (r8 (opZ b)) s
  | 1 => bitOp (bitIndex (opY b)) (r8 (opZ b)) s
  | 2 => resOp (bitIndex (opY b)) (r8 (opZ b)) s
  | _ => setOp (bitIndex (opY b)) (r8 (opZ b)) s

/-! ## One meaning per row -/

/-- `RLC B`, CB 00 (R251). -/
def execRlcB (s : State) : Result :=
  rotOp .rlc (.reg .b) s

/-- `RLC C`, CB 01 (R251). -/
def execRlcC (s : State) : Result :=
  rotOp .rlc (.reg .c) s

/-- `RLC D`, CB 02 (R251). -/
def execRlcD (s : State) : Result :=
  rotOp .rlc (.reg .d) s

/-- `RLC E`, CB 03 (R251). -/
def execRlcE (s : State) : Result :=
  rotOp .rlc (.reg .e) s

/-- `RLC H`, CB 04 (R251). -/
def execRlcH (s : State) : Result :=
  rotOp .rlc (.reg .h) s

/-- `RLC L`, CB 05 (R251). -/
def execRlcL (s : State) : Result :=
  rotOp .rlc (.reg .l) s

/-- `RLC (HL)`, CB 06 (R252). -/
def execRlcAtHL (s : State) : Result :=
  rotOp .rlc .atHL s

/-- `RLC A`, CB 07 (R251). -/
def execRlcA (s : State) : Result :=
  rotOp .rlc (.reg .a) s

/-- `RRC B`, CB 08 (R253). -/
def execRrcB (s : State) : Result :=
  rotOp .rrc (.reg .b) s

/-- `RRC C`, CB 09 (R253). -/
def execRrcC (s : State) : Result :=
  rotOp .rrc (.reg .c) s

/-- `RRC D`, CB 0A (R253). -/
def execRrcD (s : State) : Result :=
  rotOp .rrc (.reg .d) s

/-- `RRC E`, CB 0B (R253). -/
def execRrcE (s : State) : Result :=
  rotOp .rrc (.reg .e) s

/-- `RRC H`, CB 0C (R253). -/
def execRrcH (s : State) : Result :=
  rotOp .rrc (.reg .h) s

/-- `RRC L`, CB 0D (R253). -/
def execRrcL (s : State) : Result :=
  rotOp .rrc (.reg .l) s

/-- `RRC (HL)`, CB 0E (R254). -/
def execRrcAtHL (s : State) : Result :=
  rotOp .rrc .atHL s

/-- `RRC A`, CB 0F (R253). -/
def execRrcA (s : State) : Result :=
  rotOp .rrc (.reg .a) s

/-- `RL B`, CB 10 (R255). -/
def execRlB (s : State) : Result :=
  rotOp .rl (.reg .b) s

/-- `RL C`, CB 11 (R255). -/
def execRlC (s : State) : Result :=
  rotOp .rl (.reg .c) s

/-- `RL D`, CB 12 (R255). -/
def execRlD (s : State) : Result :=
  rotOp .rl (.reg .d) s

/-- `RL E`, CB 13 (R255). -/
def execRlE (s : State) : Result :=
  rotOp .rl (.reg .e) s

/-- `RL H`, CB 14 (R255). -/
def execRlH (s : State) : Result :=
  rotOp .rl (.reg .h) s

/-- `RL L`, CB 15 (R255). -/
def execRlL (s : State) : Result :=
  rotOp .rl (.reg .l) s

/-- `RL (HL)`, CB 16 (R256). -/
def execRlAtHL (s : State) : Result :=
  rotOp .rl .atHL s

/-- `RL A`, CB 17 (R255). -/
def execRlA (s : State) : Result :=
  rotOp .rl (.reg .a) s

/-- `RR B`, CB 18 (R257). -/
def execRrB (s : State) : Result :=
  rotOp .rr (.reg .b) s

/-- `RR C`, CB 19 (R257). -/
def execRrC (s : State) : Result :=
  rotOp .rr (.reg .c) s

/-- `RR D`, CB 1A (R257). -/
def execRrD (s : State) : Result :=
  rotOp .rr (.reg .d) s

/-- `RR E`, CB 1B (R257). -/
def execRrE (s : State) : Result :=
  rotOp .rr (.reg .e) s

/-- `RR H`, CB 1C (R257). -/
def execRrH (s : State) : Result :=
  rotOp .rr (.reg .h) s

/-- `RR L`, CB 1D (R257). -/
def execRrL (s : State) : Result :=
  rotOp .rr (.reg .l) s

/-- `RR (HL)`, CB 1E (R258). -/
def execRrAtHL (s : State) : Result :=
  rotOp .rr .atHL s

/-- `RR A`, CB 1F (R257). -/
def execRrA (s : State) : Result :=
  rotOp .rr (.reg .a) s

/-- `SLA B`, CB 20 (R259). -/
def execSlaB (s : State) : Result :=
  rotOp .sla (.reg .b) s

/-- `SLA C`, CB 21 (R259). -/
def execSlaC (s : State) : Result :=
  rotOp .sla (.reg .c) s

/-- `SLA D`, CB 22 (R259). -/
def execSlaD (s : State) : Result :=
  rotOp .sla (.reg .d) s

/-- `SLA E`, CB 23 (R259). -/
def execSlaE (s : State) : Result :=
  rotOp .sla (.reg .e) s

/-- `SLA H`, CB 24 (R259). -/
def execSlaH (s : State) : Result :=
  rotOp .sla (.reg .h) s

/-- `SLA L`, CB 25 (R259). -/
def execSlaL (s : State) : Result :=
  rotOp .sla (.reg .l) s

/-- `SLA (HL)`, CB 26 (R260). -/
def execSlaAtHL (s : State) : Result :=
  rotOp .sla .atHL s

/-- `SLA A`, CB 27 (R259). -/
def execSlaA (s : State) : Result :=
  rotOp .sla (.reg .a) s

/-- `SRA B`, CB 28 (R261). -/
def execSraB (s : State) : Result :=
  rotOp .sra (.reg .b) s

/-- `SRA C`, CB 29 (R261). -/
def execSraC (s : State) : Result :=
  rotOp .sra (.reg .c) s

/-- `SRA D`, CB 2A (R261). -/
def execSraD (s : State) : Result :=
  rotOp .sra (.reg .d) s

/-- `SRA E`, CB 2B (R261). -/
def execSraE (s : State) : Result :=
  rotOp .sra (.reg .e) s

/-- `SRA H`, CB 2C (R261). -/
def execSraH (s : State) : Result :=
  rotOp .sra (.reg .h) s

/-- `SRA L`, CB 2D (R261). -/
def execSraL (s : State) : Result :=
  rotOp .sra (.reg .l) s

/-- `SRA (HL)`, CB 2E (R262). -/
def execSraAtHL (s : State) : Result :=
  rotOp .sra .atHL s

/-- `SRA A`, CB 2F (R261). -/
def execSraA (s : State) : Result :=
  rotOp .sra (.reg .a) s

/-- `SWAP B`, CB 30 (R263). -/
def execSwapB (s : State) : Result :=
  rotOp .swap (.reg .b) s

/-- `SWAP C`, CB 31 (R263). -/
def execSwapC (s : State) : Result :=
  rotOp .swap (.reg .c) s

/-- `SWAP D`, CB 32 (R263). -/
def execSwapD (s : State) : Result :=
  rotOp .swap (.reg .d) s

/-- `SWAP E`, CB 33 (R263). -/
def execSwapE (s : State) : Result :=
  rotOp .swap (.reg .e) s

/-- `SWAP H`, CB 34 (R263). -/
def execSwapH (s : State) : Result :=
  rotOp .swap (.reg .h) s

/-- `SWAP L`, CB 35 (R263). -/
def execSwapL (s : State) : Result :=
  rotOp .swap (.reg .l) s

/-- `SWAP (HL)`, CB 36 (R264). -/
def execSwapAtHL (s : State) : Result :=
  rotOp .swap .atHL s

/-- `SWAP A`, CB 37 (R263). -/
def execSwapA (s : State) : Result :=
  rotOp .swap (.reg .a) s

/-- `SRL B`, CB 38 (R265). -/
def execSrlB (s : State) : Result :=
  rotOp .srl (.reg .b) s

/-- `SRL C`, CB 39 (R265). -/
def execSrlC (s : State) : Result :=
  rotOp .srl (.reg .c) s

/-- `SRL D`, CB 3A (R265). -/
def execSrlD (s : State) : Result :=
  rotOp .srl (.reg .d) s

/-- `SRL E`, CB 3B (R265). -/
def execSrlE (s : State) : Result :=
  rotOp .srl (.reg .e) s

/-- `SRL H`, CB 3C (R265). -/
def execSrlH (s : State) : Result :=
  rotOp .srl (.reg .h) s

/-- `SRL L`, CB 3D (R265). -/
def execSrlL (s : State) : Result :=
  rotOp .srl (.reg .l) s

/-- `SRL (HL)`, CB 3E (R266). -/
def execSrlAtHL (s : State) : Result :=
  rotOp .srl .atHL s

/-- `SRL A`, CB 3F (R265). -/
def execSrlA (s : State) : Result :=
  rotOp .srl (.reg .a) s

/-- `BIT 0,B`, CB 40 (R267). -/
def execBit0_B (s : State) : Result :=
  bitOp 0 (.reg .b) s

/-- `BIT 0,C`, CB 41 (R267). -/
def execBit0_C (s : State) : Result :=
  bitOp 0 (.reg .c) s

/-- `BIT 0,D`, CB 42 (R267). -/
def execBit0_D (s : State) : Result :=
  bitOp 0 (.reg .d) s

/-- `BIT 0,E`, CB 43 (R267). -/
def execBit0_E (s : State) : Result :=
  bitOp 0 (.reg .e) s

/-- `BIT 0,H`, CB 44 (R267). -/
def execBit0_H (s : State) : Result :=
  bitOp 0 (.reg .h) s

/-- `BIT 0,L`, CB 45 (R267). -/
def execBit0_L (s : State) : Result :=
  bitOp 0 (.reg .l) s

/-- `BIT 0,(HL)`, CB 46 (R268). -/
def execBit0_atHL (s : State) : Result :=
  bitOp 0 .atHL s

/-- `BIT 0,A`, CB 47 (R267). -/
def execBit0_A (s : State) : Result :=
  bitOp 0 (.reg .a) s

/-- `BIT 1,B`, CB 48 (R267). -/
def execBit1_B (s : State) : Result :=
  bitOp 1 (.reg .b) s

/-- `BIT 1,C`, CB 49 (R267). -/
def execBit1_C (s : State) : Result :=
  bitOp 1 (.reg .c) s

/-- `BIT 1,D`, CB 4A (R267). -/
def execBit1_D (s : State) : Result :=
  bitOp 1 (.reg .d) s

/-- `BIT 1,E`, CB 4B (R267). -/
def execBit1_E (s : State) : Result :=
  bitOp 1 (.reg .e) s

/-- `BIT 1,H`, CB 4C (R267). -/
def execBit1_H (s : State) : Result :=
  bitOp 1 (.reg .h) s

/-- `BIT 1,L`, CB 4D (R267). -/
def execBit1_L (s : State) : Result :=
  bitOp 1 (.reg .l) s

/-- `BIT 1,(HL)`, CB 4E (R268). -/
def execBit1_atHL (s : State) : Result :=
  bitOp 1 .atHL s

/-- `BIT 1,A`, CB 4F (R267). -/
def execBit1_A (s : State) : Result :=
  bitOp 1 (.reg .a) s

/-- `BIT 2,B`, CB 50 (R267). -/
def execBit2_B (s : State) : Result :=
  bitOp 2 (.reg .b) s

/-- `BIT 2,C`, CB 51 (R267). -/
def execBit2_C (s : State) : Result :=
  bitOp 2 (.reg .c) s

/-- `BIT 2,D`, CB 52 (R267). -/
def execBit2_D (s : State) : Result :=
  bitOp 2 (.reg .d) s

/-- `BIT 2,E`, CB 53 (R267). -/
def execBit2_E (s : State) : Result :=
  bitOp 2 (.reg .e) s

/-- `BIT 2,H`, CB 54 (R267). -/
def execBit2_H (s : State) : Result :=
  bitOp 2 (.reg .h) s

/-- `BIT 2,L`, CB 55 (R267). -/
def execBit2_L (s : State) : Result :=
  bitOp 2 (.reg .l) s

/-- `BIT 2,(HL)`, CB 56 (R268). -/
def execBit2_atHL (s : State) : Result :=
  bitOp 2 .atHL s

/-- `BIT 2,A`, CB 57 (R267). -/
def execBit2_A (s : State) : Result :=
  bitOp 2 (.reg .a) s

/-- `BIT 3,B`, CB 58 (R267). -/
def execBit3_B (s : State) : Result :=
  bitOp 3 (.reg .b) s

/-- `BIT 3,C`, CB 59 (R267). -/
def execBit3_C (s : State) : Result :=
  bitOp 3 (.reg .c) s

/-- `BIT 3,D`, CB 5A (R267). -/
def execBit3_D (s : State) : Result :=
  bitOp 3 (.reg .d) s

/-- `BIT 3,E`, CB 5B (R267). -/
def execBit3_E (s : State) : Result :=
  bitOp 3 (.reg .e) s

/-- `BIT 3,H`, CB 5C (R267). -/
def execBit3_H (s : State) : Result :=
  bitOp 3 (.reg .h) s

/-- `BIT 3,L`, CB 5D (R267). -/
def execBit3_L (s : State) : Result :=
  bitOp 3 (.reg .l) s

/-- `BIT 3,(HL)`, CB 5E (R268). -/
def execBit3_atHL (s : State) : Result :=
  bitOp 3 .atHL s

/-- `BIT 3,A`, CB 5F (R267). -/
def execBit3_A (s : State) : Result :=
  bitOp 3 (.reg .a) s

/-- `BIT 4,B`, CB 60 (R267). -/
def execBit4_B (s : State) : Result :=
  bitOp 4 (.reg .b) s

/-- `BIT 4,C`, CB 61 (R267). -/
def execBit4_C (s : State) : Result :=
  bitOp 4 (.reg .c) s

/-- `BIT 4,D`, CB 62 (R267). -/
def execBit4_D (s : State) : Result :=
  bitOp 4 (.reg .d) s

/-- `BIT 4,E`, CB 63 (R267). -/
def execBit4_E (s : State) : Result :=
  bitOp 4 (.reg .e) s

/-- `BIT 4,H`, CB 64 (R267). -/
def execBit4_H (s : State) : Result :=
  bitOp 4 (.reg .h) s

/-- `BIT 4,L`, CB 65 (R267). -/
def execBit4_L (s : State) : Result :=
  bitOp 4 (.reg .l) s

/-- `BIT 4,(HL)`, CB 66 (R268). -/
def execBit4_atHL (s : State) : Result :=
  bitOp 4 .atHL s

/-- `BIT 4,A`, CB 67 (R267). -/
def execBit4_A (s : State) : Result :=
  bitOp 4 (.reg .a) s

/-- `BIT 5,B`, CB 68 (R267). -/
def execBit5_B (s : State) : Result :=
  bitOp 5 (.reg .b) s

/-- `BIT 5,C`, CB 69 (R267). -/
def execBit5_C (s : State) : Result :=
  bitOp 5 (.reg .c) s

/-- `BIT 5,D`, CB 6A (R267). -/
def execBit5_D (s : State) : Result :=
  bitOp 5 (.reg .d) s

/-- `BIT 5,E`, CB 6B (R267). -/
def execBit5_E (s : State) : Result :=
  bitOp 5 (.reg .e) s

/-- `BIT 5,H`, CB 6C (R267). -/
def execBit5_H (s : State) : Result :=
  bitOp 5 (.reg .h) s

/-- `BIT 5,L`, CB 6D (R267). -/
def execBit5_L (s : State) : Result :=
  bitOp 5 (.reg .l) s

/-- `BIT 5,(HL)`, CB 6E (R268). -/
def execBit5_atHL (s : State) : Result :=
  bitOp 5 .atHL s

/-- `BIT 5,A`, CB 6F (R267). -/
def execBit5_A (s : State) : Result :=
  bitOp 5 (.reg .a) s

/-- `BIT 6,B`, CB 70 (R267). -/
def execBit6_B (s : State) : Result :=
  bitOp 6 (.reg .b) s

/-- `BIT 6,C`, CB 71 (R267). -/
def execBit6_C (s : State) : Result :=
  bitOp 6 (.reg .c) s

/-- `BIT 6,D`, CB 72 (R267). -/
def execBit6_D (s : State) : Result :=
  bitOp 6 (.reg .d) s

/-- `BIT 6,E`, CB 73 (R267). -/
def execBit6_E (s : State) : Result :=
  bitOp 6 (.reg .e) s

/-- `BIT 6,H`, CB 74 (R267). -/
def execBit6_H (s : State) : Result :=
  bitOp 6 (.reg .h) s

/-- `BIT 6,L`, CB 75 (R267). -/
def execBit6_L (s : State) : Result :=
  bitOp 6 (.reg .l) s

/-- `BIT 6,(HL)`, CB 76 (R268). -/
def execBit6_atHL (s : State) : Result :=
  bitOp 6 .atHL s

/-- `BIT 6,A`, CB 77 (R267). -/
def execBit6_A (s : State) : Result :=
  bitOp 6 (.reg .a) s

/-- `BIT 7,B`, CB 78 (R267). -/
def execBit7_B (s : State) : Result :=
  bitOp 7 (.reg .b) s

/-- `BIT 7,C`, CB 79 (R267). -/
def execBit7_C (s : State) : Result :=
  bitOp 7 (.reg .c) s

/-- `BIT 7,D`, CB 7A (R267). -/
def execBit7_D (s : State) : Result :=
  bitOp 7 (.reg .d) s

/-- `BIT 7,E`, CB 7B (R267). -/
def execBit7_E (s : State) : Result :=
  bitOp 7 (.reg .e) s

/-- `BIT 7,H`, CB 7C (R267). -/
def execBit7_H (s : State) : Result :=
  bitOp 7 (.reg .h) s

/-- `BIT 7,L`, CB 7D (R267). -/
def execBit7_L (s : State) : Result :=
  bitOp 7 (.reg .l) s

/-- `BIT 7,(HL)`, CB 7E (R268). -/
def execBit7_atHL (s : State) : Result :=
  bitOp 7 .atHL s

/-- `BIT 7,A`, CB 7F (R267). -/
def execBit7_A (s : State) : Result :=
  bitOp 7 (.reg .a) s

/-- `RES 0,B`, CB 80 (R269). -/
def execRes0_B (s : State) : Result :=
  resOp 0 (.reg .b) s

/-- `RES 0,C`, CB 81 (R269). -/
def execRes0_C (s : State) : Result :=
  resOp 0 (.reg .c) s

/-- `RES 0,D`, CB 82 (R269). -/
def execRes0_D (s : State) : Result :=
  resOp 0 (.reg .d) s

/-- `RES 0,E`, CB 83 (R269). -/
def execRes0_E (s : State) : Result :=
  resOp 0 (.reg .e) s

/-- `RES 0,H`, CB 84 (R269). -/
def execRes0_H (s : State) : Result :=
  resOp 0 (.reg .h) s

/-- `RES 0,L`, CB 85 (R269). -/
def execRes0_L (s : State) : Result :=
  resOp 0 (.reg .l) s

/-- `RES 0,(HL)`, CB 86 (R270). -/
def execRes0_atHL (s : State) : Result :=
  resOp 0 .atHL s

/-- `RES 0,A`, CB 87 (R269). -/
def execRes0_A (s : State) : Result :=
  resOp 0 (.reg .a) s

/-- `RES 1,B`, CB 88 (R269). -/
def execRes1_B (s : State) : Result :=
  resOp 1 (.reg .b) s

/-- `RES 1,C`, CB 89 (R269). -/
def execRes1_C (s : State) : Result :=
  resOp 1 (.reg .c) s

/-- `RES 1,D`, CB 8A (R269). -/
def execRes1_D (s : State) : Result :=
  resOp 1 (.reg .d) s

/-- `RES 1,E`, CB 8B (R269). -/
def execRes1_E (s : State) : Result :=
  resOp 1 (.reg .e) s

/-- `RES 1,H`, CB 8C (R269). -/
def execRes1_H (s : State) : Result :=
  resOp 1 (.reg .h) s

/-- `RES 1,L`, CB 8D (R269). -/
def execRes1_L (s : State) : Result :=
  resOp 1 (.reg .l) s

/-- `RES 1,(HL)`, CB 8E (R270). -/
def execRes1_atHL (s : State) : Result :=
  resOp 1 .atHL s

/-- `RES 1,A`, CB 8F (R269). -/
def execRes1_A (s : State) : Result :=
  resOp 1 (.reg .a) s

/-- `RES 2,B`, CB 90 (R269). -/
def execRes2_B (s : State) : Result :=
  resOp 2 (.reg .b) s

/-- `RES 2,C`, CB 91 (R269). -/
def execRes2_C (s : State) : Result :=
  resOp 2 (.reg .c) s

/-- `RES 2,D`, CB 92 (R269). -/
def execRes2_D (s : State) : Result :=
  resOp 2 (.reg .d) s

/-- `RES 2,E`, CB 93 (R269). -/
def execRes2_E (s : State) : Result :=
  resOp 2 (.reg .e) s

/-- `RES 2,H`, CB 94 (R269). -/
def execRes2_H (s : State) : Result :=
  resOp 2 (.reg .h) s

/-- `RES 2,L`, CB 95 (R269). -/
def execRes2_L (s : State) : Result :=
  resOp 2 (.reg .l) s

/-- `RES 2,(HL)`, CB 96 (R270). -/
def execRes2_atHL (s : State) : Result :=
  resOp 2 .atHL s

/-- `RES 2,A`, CB 97 (R269). -/
def execRes2_A (s : State) : Result :=
  resOp 2 (.reg .a) s

/-- `RES 3,B`, CB 98 (R269). -/
def execRes3_B (s : State) : Result :=
  resOp 3 (.reg .b) s

/-- `RES 3,C`, CB 99 (R269). -/
def execRes3_C (s : State) : Result :=
  resOp 3 (.reg .c) s

/-- `RES 3,D`, CB 9A (R269). -/
def execRes3_D (s : State) : Result :=
  resOp 3 (.reg .d) s

/-- `RES 3,E`, CB 9B (R269). -/
def execRes3_E (s : State) : Result :=
  resOp 3 (.reg .e) s

/-- `RES 3,H`, CB 9C (R269). -/
def execRes3_H (s : State) : Result :=
  resOp 3 (.reg .h) s

/-- `RES 3,L`, CB 9D (R269). -/
def execRes3_L (s : State) : Result :=
  resOp 3 (.reg .l) s

/-- `RES 3,(HL)`, CB 9E (R270). -/
def execRes3_atHL (s : State) : Result :=
  resOp 3 .atHL s

/-- `RES 3,A`, CB 9F (R269). -/
def execRes3_A (s : State) : Result :=
  resOp 3 (.reg .a) s

/-- `RES 4,B`, CB A0 (R269). -/
def execRes4_B (s : State) : Result :=
  resOp 4 (.reg .b) s

/-- `RES 4,C`, CB A1 (R269). -/
def execRes4_C (s : State) : Result :=
  resOp 4 (.reg .c) s

/-- `RES 4,D`, CB A2 (R269). -/
def execRes4_D (s : State) : Result :=
  resOp 4 (.reg .d) s

/-- `RES 4,E`, CB A3 (R269). -/
def execRes4_E (s : State) : Result :=
  resOp 4 (.reg .e) s

/-- `RES 4,H`, CB A4 (R269). -/
def execRes4_H (s : State) : Result :=
  resOp 4 (.reg .h) s

/-- `RES 4,L`, CB A5 (R269). -/
def execRes4_L (s : State) : Result :=
  resOp 4 (.reg .l) s

/-- `RES 4,(HL)`, CB A6 (R270). -/
def execRes4_atHL (s : State) : Result :=
  resOp 4 .atHL s

/-- `RES 4,A`, CB A7 (R269). -/
def execRes4_A (s : State) : Result :=
  resOp 4 (.reg .a) s

/-- `RES 5,B`, CB A8 (R269). -/
def execRes5_B (s : State) : Result :=
  resOp 5 (.reg .b) s

/-- `RES 5,C`, CB A9 (R269). -/
def execRes5_C (s : State) : Result :=
  resOp 5 (.reg .c) s

/-- `RES 5,D`, CB AA (R269). -/
def execRes5_D (s : State) : Result :=
  resOp 5 (.reg .d) s

/-- `RES 5,E`, CB AB (R269). -/
def execRes5_E (s : State) : Result :=
  resOp 5 (.reg .e) s

/-- `RES 5,H`, CB AC (R269). -/
def execRes5_H (s : State) : Result :=
  resOp 5 (.reg .h) s

/-- `RES 5,L`, CB AD (R269). -/
def execRes5_L (s : State) : Result :=
  resOp 5 (.reg .l) s

/-- `RES 5,(HL)`, CB AE (R270). -/
def execRes5_atHL (s : State) : Result :=
  resOp 5 .atHL s

/-- `RES 5,A`, CB AF (R269). -/
def execRes5_A (s : State) : Result :=
  resOp 5 (.reg .a) s

/-- `RES 6,B`, CB B0 (R269). -/
def execRes6_B (s : State) : Result :=
  resOp 6 (.reg .b) s

/-- `RES 6,C`, CB B1 (R269). -/
def execRes6_C (s : State) : Result :=
  resOp 6 (.reg .c) s

/-- `RES 6,D`, CB B2 (R269). -/
def execRes6_D (s : State) : Result :=
  resOp 6 (.reg .d) s

/-- `RES 6,E`, CB B3 (R269). -/
def execRes6_E (s : State) : Result :=
  resOp 6 (.reg .e) s

/-- `RES 6,H`, CB B4 (R269). -/
def execRes6_H (s : State) : Result :=
  resOp 6 (.reg .h) s

/-- `RES 6,L`, CB B5 (R269). -/
def execRes6_L (s : State) : Result :=
  resOp 6 (.reg .l) s

/-- `RES 6,(HL)`, CB B6 (R270). -/
def execRes6_atHL (s : State) : Result :=
  resOp 6 .atHL s

/-- `RES 6,A`, CB B7 (R269). -/
def execRes6_A (s : State) : Result :=
  resOp 6 (.reg .a) s

/-- `RES 7,B`, CB B8 (R269). -/
def execRes7_B (s : State) : Result :=
  resOp 7 (.reg .b) s

/-- `RES 7,C`, CB B9 (R269). -/
def execRes7_C (s : State) : Result :=
  resOp 7 (.reg .c) s

/-- `RES 7,D`, CB BA (R269). -/
def execRes7_D (s : State) : Result :=
  resOp 7 (.reg .d) s

/-- `RES 7,E`, CB BB (R269). -/
def execRes7_E (s : State) : Result :=
  resOp 7 (.reg .e) s

/-- `RES 7,H`, CB BC (R269). -/
def execRes7_H (s : State) : Result :=
  resOp 7 (.reg .h) s

/-- `RES 7,L`, CB BD (R269). -/
def execRes7_L (s : State) : Result :=
  resOp 7 (.reg .l) s

/-- `RES 7,(HL)`, CB BE (R270). -/
def execRes7_atHL (s : State) : Result :=
  resOp 7 .atHL s

/-- `RES 7,A`, CB BF (R269). -/
def execRes7_A (s : State) : Result :=
  resOp 7 (.reg .a) s

/-- `SET 0,B`, CB C0 (R271). -/
def execSet0_B (s : State) : Result :=
  setOp 0 (.reg .b) s

/-- `SET 0,C`, CB C1 (R271). -/
def execSet0_C (s : State) : Result :=
  setOp 0 (.reg .c) s

/-- `SET 0,D`, CB C2 (R271). -/
def execSet0_D (s : State) : Result :=
  setOp 0 (.reg .d) s

/-- `SET 0,E`, CB C3 (R271). -/
def execSet0_E (s : State) : Result :=
  setOp 0 (.reg .e) s

/-- `SET 0,H`, CB C4 (R271). -/
def execSet0_H (s : State) : Result :=
  setOp 0 (.reg .h) s

/-- `SET 0,L`, CB C5 (R271). -/
def execSet0_L (s : State) : Result :=
  setOp 0 (.reg .l) s

/-- `SET 0,(HL)`, CB C6 (R272). -/
def execSet0_atHL (s : State) : Result :=
  setOp 0 .atHL s

/-- `SET 0,A`, CB C7 (R271). -/
def execSet0_A (s : State) : Result :=
  setOp 0 (.reg .a) s

/-- `SET 1,B`, CB C8 (R271). -/
def execSet1_B (s : State) : Result :=
  setOp 1 (.reg .b) s

/-- `SET 1,C`, CB C9 (R271). -/
def execSet1_C (s : State) : Result :=
  setOp 1 (.reg .c) s

/-- `SET 1,D`, CB CA (R271). -/
def execSet1_D (s : State) : Result :=
  setOp 1 (.reg .d) s

/-- `SET 1,E`, CB CB (R271). -/
def execSet1_E (s : State) : Result :=
  setOp 1 (.reg .e) s

/-- `SET 1,H`, CB CC (R271). -/
def execSet1_H (s : State) : Result :=
  setOp 1 (.reg .h) s

/-- `SET 1,L`, CB CD (R271). -/
def execSet1_L (s : State) : Result :=
  setOp 1 (.reg .l) s

/-- `SET 1,(HL)`, CB CE (R272). -/
def execSet1_atHL (s : State) : Result :=
  setOp 1 .atHL s

/-- `SET 1,A`, CB CF (R271). -/
def execSet1_A (s : State) : Result :=
  setOp 1 (.reg .a) s

/-- `SET 2,B`, CB D0 (R271). -/
def execSet2_B (s : State) : Result :=
  setOp 2 (.reg .b) s

/-- `SET 2,C`, CB D1 (R271). -/
def execSet2_C (s : State) : Result :=
  setOp 2 (.reg .c) s

/-- `SET 2,D`, CB D2 (R271). -/
def execSet2_D (s : State) : Result :=
  setOp 2 (.reg .d) s

/-- `SET 2,E`, CB D3 (R271). -/
def execSet2_E (s : State) : Result :=
  setOp 2 (.reg .e) s

/-- `SET 2,H`, CB D4 (R271). -/
def execSet2_H (s : State) : Result :=
  setOp 2 (.reg .h) s

/-- `SET 2,L`, CB D5 (R271). -/
def execSet2_L (s : State) : Result :=
  setOp 2 (.reg .l) s

/-- `SET 2,(HL)`, CB D6 (R272). -/
def execSet2_atHL (s : State) : Result :=
  setOp 2 .atHL s

/-- `SET 2,A`, CB D7 (R271). -/
def execSet2_A (s : State) : Result :=
  setOp 2 (.reg .a) s

/-- `SET 3,B`, CB D8 (R271). -/
def execSet3_B (s : State) : Result :=
  setOp 3 (.reg .b) s

/-- `SET 3,C`, CB D9 (R271). -/
def execSet3_C (s : State) : Result :=
  setOp 3 (.reg .c) s

/-- `SET 3,D`, CB DA (R271). -/
def execSet3_D (s : State) : Result :=
  setOp 3 (.reg .d) s

/-- `SET 3,E`, CB DB (R271). -/
def execSet3_E (s : State) : Result :=
  setOp 3 (.reg .e) s

/-- `SET 3,H`, CB DC (R271). -/
def execSet3_H (s : State) : Result :=
  setOp 3 (.reg .h) s

/-- `SET 3,L`, CB DD (R271). -/
def execSet3_L (s : State) : Result :=
  setOp 3 (.reg .l) s

/-- `SET 3,(HL)`, CB DE (R272). -/
def execSet3_atHL (s : State) : Result :=
  setOp 3 .atHL s

/-- `SET 3,A`, CB DF (R271). -/
def execSet3_A (s : State) : Result :=
  setOp 3 (.reg .a) s

/-- `SET 4,B`, CB E0 (R271). -/
def execSet4_B (s : State) : Result :=
  setOp 4 (.reg .b) s

/-- `SET 4,C`, CB E1 (R271). -/
def execSet4_C (s : State) : Result :=
  setOp 4 (.reg .c) s

/-- `SET 4,D`, CB E2 (R271). -/
def execSet4_D (s : State) : Result :=
  setOp 4 (.reg .d) s

/-- `SET 4,E`, CB E3 (R271). -/
def execSet4_E (s : State) : Result :=
  setOp 4 (.reg .e) s

/-- `SET 4,H`, CB E4 (R271). -/
def execSet4_H (s : State) : Result :=
  setOp 4 (.reg .h) s

/-- `SET 4,L`, CB E5 (R271). -/
def execSet4_L (s : State) : Result :=
  setOp 4 (.reg .l) s

/-- `SET 4,(HL)`, CB E6 (R272). -/
def execSet4_atHL (s : State) : Result :=
  setOp 4 .atHL s

/-- `SET 4,A`, CB E7 (R271). -/
def execSet4_A (s : State) : Result :=
  setOp 4 (.reg .a) s

/-- `SET 5,B`, CB E8 (R271). -/
def execSet5_B (s : State) : Result :=
  setOp 5 (.reg .b) s

/-- `SET 5,C`, CB E9 (R271). -/
def execSet5_C (s : State) : Result :=
  setOp 5 (.reg .c) s

/-- `SET 5,D`, CB EA (R271). -/
def execSet5_D (s : State) : Result :=
  setOp 5 (.reg .d) s

/-- `SET 5,E`, CB EB (R271). -/
def execSet5_E (s : State) : Result :=
  setOp 5 (.reg .e) s

/-- `SET 5,H`, CB EC (R271). -/
def execSet5_H (s : State) : Result :=
  setOp 5 (.reg .h) s

/-- `SET 5,L`, CB ED (R271). -/
def execSet5_L (s : State) : Result :=
  setOp 5 (.reg .l) s

/-- `SET 5,(HL)`, CB EE (R272). -/
def execSet5_atHL (s : State) : Result :=
  setOp 5 .atHL s

/-- `SET 5,A`, CB EF (R271). -/
def execSet5_A (s : State) : Result :=
  setOp 5 (.reg .a) s

/-- `SET 6,B`, CB F0 (R271). -/
def execSet6_B (s : State) : Result :=
  setOp 6 (.reg .b) s

/-- `SET 6,C`, CB F1 (R271). -/
def execSet6_C (s : State) : Result :=
  setOp 6 (.reg .c) s

/-- `SET 6,D`, CB F2 (R271). -/
def execSet6_D (s : State) : Result :=
  setOp 6 (.reg .d) s

/-- `SET 6,E`, CB F3 (R271). -/
def execSet6_E (s : State) : Result :=
  setOp 6 (.reg .e) s

/-- `SET 6,H`, CB F4 (R271). -/
def execSet6_H (s : State) : Result :=
  setOp 6 (.reg .h) s

/-- `SET 6,L`, CB F5 (R271). -/
def execSet6_L (s : State) : Result :=
  setOp 6 (.reg .l) s

/-- `SET 6,(HL)`, CB F6 (R272). -/
def execSet6_atHL (s : State) : Result :=
  setOp 6 .atHL s

/-- `SET 6,A`, CB F7 (R271). -/
def execSet6_A (s : State) : Result :=
  setOp 6 (.reg .a) s

/-- `SET 7,B`, CB F8 (R271). -/
def execSet7_B (s : State) : Result :=
  setOp 7 (.reg .b) s

/-- `SET 7,C`, CB F9 (R271). -/
def execSet7_C (s : State) : Result :=
  setOp 7 (.reg .c) s

/-- `SET 7,D`, CB FA (R271). -/
def execSet7_D (s : State) : Result :=
  setOp 7 (.reg .d) s

/-- `SET 7,E`, CB FB (R271). -/
def execSet7_E (s : State) : Result :=
  setOp 7 (.reg .e) s

/-- `SET 7,H`, CB FC (R271). -/
def execSet7_H (s : State) : Result :=
  setOp 7 (.reg .h) s

/-- `SET 7,L`, CB FD (R271). -/
def execSet7_L (s : State) : Result :=
  setOp 7 (.reg .l) s

/-- `SET 7,(HL)`, CB FE (R272). -/
def execSet7_atHL (s : State) : Result :=
  setOp 7 .atHL s

/-- `SET 7,A`, CB FF (R271). -/
def execSet7_A (s : State) : Result :=
  setOp 7 (.reg .a) s

end Sys2Proof.Machine
end

