-- ==== Sys2Proof/Machine/Loads.lean ====
section
/-! DEFINITION. Loads, stores and stack operations (42_loads.md R150 to R175): the shared operations, then one meaning per
table row. PC is past the instruction's bytes when a meaning runs (R32, Fetch.lean). -/

namespace Sys2Proof.Machine

open Sys2Proof

/-! ## Shared operations -/

/-- R150. -/
def ldRegReg (dst r : Reg8) (s : State) : Result := .next ((s.setReg dst (s.reg r)).charge 1)

/-- R151: the address is the HL before the write. -/
def ldRegAtHL (dst : Reg8) (s : State) : Result := .next ((s.setReg dst (s.read8 s.hl)).charge 2)

/-- R152. -/
def ldAtHLReg (r : Reg8) (s : State) : Result := .next ((s.write8 s.hl (s.reg r)).charge 2)

/-- R153. -/
def ldRegImm (dst : Reg8) (n : Byte) (s : State) : Result := .next ((s.setReg dst n).charge 2)

/-- R154. -/
def ldAtHLImm (n : Byte) (s : State) : Result := .next ((s.write8 s.hl n).charge 3)

/-- Load A from an address (R155, R156, R159, R161, R163). -/
def ldAAt (addr : Word) (cycles : Nat) (s : State) : Result := .next ({ s with a := s.read8 addr }.charge cycles)

/-- Store A at an address (R157, R158, R160, R162, R164). -/
def ldAtA (addr : Word) (cycles : Nat) (s : State) : Result := .next ((s.write8 addr s.a).charge cycles)

/-- Store A at HL, then move HL by `delta` modulo 2^16 (R165, R166). -/
def ldAtHLStep (delta : Word) (s : State) : Result := .next (((s.write8 s.hl s.a).setHL (s.hl + delta)).charge 2)

/-- Load A from HL, then move HL by `delta` modulo 2^16 (R167, R168). -/
def ldAAtHLStep (delta : Word) (s : State) : Result :=
  .next (({ s with a := s.read8 s.hl }.setHL (s.hl + delta)).charge 2)

/-- R169. -/
def ldPairImm (p : Pair) (nn : Word) (s : State) : Result := .next ((s.setPair p nn).charge 3)

/-- R173. -/
def pushPair (p : StackPair) (s : State) : Result := .next ((s.push16 (s.stackPair p)).charge 4)

/-- R174, R175. -/
def popPair (p : StackPair) (s : State) : Result :=
  let (v, t) := s.pop16
  .next ((t.setStackPair p v).charge 3)

/-! ## One meaning per row -/

/-- `LD BC,nn`, 01 (R169). -/
def execLdBC_nn (nn : Word) (s : State) : Result :=
  ldPairImm .bc nn s

/-- `LD (BC),A`, 02 (R157). -/
def execLdAtBC_A (s : State) : Result :=
  ldAtA s.bc 2 s

/-- `LD B,n`, 06 (R153). -/
def execLdB_n (n : Byte) (s : State) : Result :=
  ldRegImm .b n s

/-- `LD (nn),SP`, 08 (R170). -/
def execLdAtNN_SP (nn : Word) (s : State) : Result :=
  .next ((s.write16 nn s.sp).charge 5)

/-- `LD A,(BC)`, 0A (R155). -/
def execLdA_atBC (s : State) : Result :=
  ldAAt s.bc 2 s

/-- `LD C,n`, 0E (R153). -/
def execLdC_n (n : Byte) (s : State) : Result :=
  ldRegImm .c n s

/-- `LD DE,nn`, 11 (R169). -/
def execLdDE_nn (nn : Word) (s : State) : Result :=
  ldPairImm .de nn s

/-- `LD (DE),A`, 12 (R158). -/
def execLdAtDE_A (s : State) : Result :=
  ldAtA s.de 2 s

/-- `LD D,n`, 16 (R153). -/
def execLdD_n (n : Byte) (s : State) : Result :=
  ldRegImm .d n s

/-- `LD A,(DE)`, 1A (R156). -/
def execLdA_atDE (s : State) : Result :=
  ldAAt s.de 2 s

/-- `LD E,n`, 1E (R153). -/
def execLdE_n (n : Byte) (s : State) : Result :=
  ldRegImm .e n s

/-- `LD HL,nn`, 21 (R169). -/
def execLdHL_nn (nn : Word) (s : State) : Result :=
  ldPairImm .hl nn s

/-- `LD (HL+),A`, 22 (R165). -/
def execLdAtHLinc_A (s : State) : Result :=
  ldAtHLStep 1 s

/-- `LD H,n`, 26 (R153). -/
def execLdH_n (n : Byte) (s : State) : Result :=
  ldRegImm .h n s

/-- `LD A,(HL+)`, 2A (R167). -/
def execLdA_atHLinc (s : State) : Result :=
  ldAAtHLStep 1 s

/-- `LD L,n`, 2E (R153). -/
def execLdL_n (n : Byte) (s : State) : Result :=
  ldRegImm .l n s

/-- `LD SP,nn`, 31 (R169). -/
def execLdSP_nn (nn : Word) (s : State) : Result :=
  ldPairImm .sp nn s

/-- `LD (HL-),A`, 32 (R166). -/
def execLdAtHLdec_A (s : State) : Result :=
  ldAtHLStep (-1) s

/-- `LD (HL),n`, 36 (R154). -/
def execLdAtHL_n (n : Byte) (s : State) : Result :=
  ldAtHLImm n s

/-- `LD A,(HL-)`, 3A (R168). -/
def execLdA_atHLdec (s : State) : Result :=
  ldAAtHLStep (-1) s

/-- `LD A,n`, 3E (R153). -/
def execLdA_n (n : Byte) (s : State) : Result :=
  ldRegImm .a n s

/-- `LD B,B`, 40 (R150). -/
def execLdB_B (s : State) : Result :=
  ldRegReg .b .b s

/-- `LD B,C`, 41 (R150). -/
def execLdB_C (s : State) : Result :=
  ldRegReg .b .c s

/-- `LD B,D`, 42 (R150). -/
def execLdB_D (s : State) : Result :=
  ldRegReg .b .d s

/-- `LD B,E`, 43 (R150). -/
def execLdB_E (s : State) : Result :=
  ldRegReg .b .e s

/-- `LD B,H`, 44 (R150). -/
def execLdB_H (s : State) : Result :=
  ldRegReg .b .h s

/-- `LD B,L`, 45 (R150). -/
def execLdB_L (s : State) : Result :=
  ldRegReg .b .l s

/-- `LD B,(HL)`, 46 (R151). -/
def execLdB_atHL (s : State) : Result :=
  ldRegAtHL .b s

/-- `LD B,A`, 47 (R150). -/
def execLdB_A (s : State) : Result :=
  ldRegReg .b .a s

/-- `LD C,B`, 48 (R150). -/
def execLdC_B (s : State) : Result :=
  ldRegReg .c .b s

/-- `LD C,C`, 49 (R150). -/
def execLdC_C (s : State) : Result :=
  ldRegReg .c .c s

/-- `LD C,D`, 4A (R150). -/
def execLdC_D (s : State) : Result :=
  ldRegReg .c .d s

/-- `LD C,E`, 4B (R150). -/
def execLdC_E (s : State) : Result :=
  ldRegReg .c .e s

/-- `LD C,H`, 4C (R150). -/
def execLdC_H (s : State) : Result :=
  ldRegReg .c .h s

/-- `LD C,L`, 4D (R150). -/
def execLdC_L (s : State) : Result :=
  ldRegReg .c .l s

/-- `LD C,(HL)`, 4E (R151). -/
def execLdC_atHL (s : State) : Result :=
  ldRegAtHL .c s

/-- `LD C,A`, 4F (R150). -/
def execLdC_A (s : State) : Result :=
  ldRegReg .c .a s

/-- `LD D,B`, 50 (R150). -/
def execLdD_B (s : State) : Result :=
  ldRegReg .d .b s

/-- `LD D,C`, 51 (R150). -/
def execLdD_C (s : State) : Result :=
  ldRegReg .d .c s

/-- `LD D,D`, 52 (R150). -/
def execLdD_D (s : State) : Result :=
  ldRegReg .d .d s

/-- `LD D,E`, 53 (R150). -/
def execLdD_E (s : State) : Result :=
  ldRegReg .d .e s

/-- `LD D,H`, 54 (R150). -/
def execLdD_H (s : State) : Result :=
  ldRegReg .d .h s

/-- `LD D,L`, 55 (R150). -/
def execLdD_L (s : State) : Result :=
  ldRegReg .d .l s

/-- `LD D,(HL)`, 56 (R151). -/
def execLdD_atHL (s : State) : Result :=
  ldRegAtHL .d s

/-- `LD D,A`, 57 (R150). -/
def execLdD_A (s : State) : Result :=
  ldRegReg .d .a s

/-- `LD E,B`, 58 (R150). -/
def execLdE_B (s : State) : Result :=
  ldRegReg .e .b s

/-- `LD E,C`, 59 (R150). -/
def execLdE_C (s : State) : Result :=
  ldRegReg .e .c s

/-- `LD E,D`, 5A (R150). -/
def execLdE_D (s : State) : Result :=
  ldRegReg .e .d s

/-- `LD E,E`, 5B (R150). -/
def execLdE_E (s : State) : Result :=
  ldRegReg .e .e s

/-- `LD E,H`, 5C (R150). -/
def execLdE_H (s : State) : Result :=
  ldRegReg .e .h s

/-- `LD E,L`, 5D (R150). -/
def execLdE_L (s : State) : Result :=
  ldRegReg .e .l s

/-- `LD E,(HL)`, 5E (R151). -/
def execLdE_atHL (s : State) : Result :=
  ldRegAtHL .e s

/-- `LD E,A`, 5F (R150). -/
def execLdE_A (s : State) : Result :=
  ldRegReg .e .a s

/-- `LD H,B`, 60 (R150). -/
def execLdH_B (s : State) : Result :=
  ldRegReg .h .b s

/-- `LD H,C`, 61 (R150). -/
def execLdH_C (s : State) : Result :=
  ldRegReg .h .c s

/-- `LD H,D`, 62 (R150). -/
def execLdH_D (s : State) : Result :=
  ldRegReg .h .d s

/-- `LD H,E`, 63 (R150). -/
def execLdH_E (s : State) : Result :=
  ldRegReg .h .e s

/-- `LD H,H`, 64 (R150). -/
def execLdH_H (s : State) : Result :=
  ldRegReg .h .h s

/-- `LD H,L`, 65 (R150). -/
def execLdH_L (s : State) : Result :=
  ldRegReg .h .l s

/-- `LD H,(HL)`, 66 (R151). -/
def execLdH_atHL (s : State) : Result :=
  ldRegAtHL .h s

/-- `LD H,A`, 67 (R150). -/
def execLdH_A (s : State) : Result :=
  ldRegReg .h .a s

/-- `LD L,B`, 68 (R150). -/
def execLdL_B (s : State) : Result :=
  ldRegReg .l .b s

/-- `LD L,C`, 69 (R150). -/
def execLdL_C (s : State) : Result :=
  ldRegReg .l .c s

/-- `LD L,D`, 6A (R150). -/
def execLdL_D (s : State) : Result :=
  ldRegReg .l .d s

/-- `LD L,E`, 6B (R150). -/
def execLdL_E (s : State) : Result :=
  ldRegReg .l .e s

/-- `LD L,H`, 6C (R150). -/
def execLdL_H (s : State) : Result :=
  ldRegReg .l .h s

/-- `LD L,L`, 6D (R150). -/
def execLdL_L (s : State) : Result :=
  ldRegReg .l .l s

/-- `LD L,(HL)`, 6E (R151). -/
def execLdL_atHL (s : State) : Result :=
  ldRegAtHL .l s

/-- `LD L,A`, 6F (R150). -/
def execLdL_A (s : State) : Result :=
  ldRegReg .l .a s

/-- `LD (HL),B`, 70 (R152). -/
def execLdAtHL_B (s : State) : Result :=
  ldAtHLReg .b s

/-- `LD (HL),C`, 71 (R152). -/
def execLdAtHL_C (s : State) : Result :=
  ldAtHLReg .c s

/-- `LD (HL),D`, 72 (R152). -/
def execLdAtHL_D (s : State) : Result :=
  ldAtHLReg .d s

/-- `LD (HL),E`, 73 (R152). -/
def execLdAtHL_E (s : State) : Result :=
  ldAtHLReg .e s

/-- `LD (HL),H`, 74 (R152). -/
def execLdAtHL_H (s : State) : Result :=
  ldAtHLReg .h s

/-- `LD (HL),L`, 75 (R152). -/
def execLdAtHL_L (s : State) : Result :=
  ldAtHLReg .l s

/-- `LD (HL),A`, 77 (R152). -/
def execLdAtHL_A (s : State) : Result :=
  ldAtHLReg .a s

/-- `LD A,B`, 78 (R150). -/
def execLdA_B (s : State) : Result :=
  ldRegReg .a .b s

/-- `LD A,C`, 79 (R150). -/
def execLdA_C (s : State) : Result :=
  ldRegReg .a .c s

/-- `LD A,D`, 7A (R150). -/
def execLdA_D (s : State) : Result :=
  ldRegReg .a .d s

/-- `LD A,E`, 7B (R150). -/
def execLdA_E (s : State) : Result :=
  ldRegReg .a .e s

/-- `LD A,H`, 7C (R150). -/
def execLdA_H (s : State) : Result :=
  ldRegReg .a .h s

/-- `LD A,L`, 7D (R150). -/
def execLdA_L (s : State) : Result :=
  ldRegReg .a .l s

/-- `LD A,(HL)`, 7E (R151). -/
def execLdA_atHL (s : State) : Result :=
  ldRegAtHL .a s

/-- `LD A,A`, 7F (R150). -/
def execLdA_A (s : State) : Result :=
  ldRegReg .a .a s

/-- `POP BC`, C1 (R174). -/
def execPopBC (s : State) : Result :=
  popPair .bc s

/-- `PUSH BC`, C5 (R173). -/
def execPushBC (s : State) : Result :=
  pushPair .bc s

/-- `POP DE`, D1 (R174). -/
def execPopDE (s : State) : Result :=
  popPair .de s

/-- `PUSH DE`, D5 (R173). -/
def execPushDE (s : State) : Result :=
  pushPair .de s

/-- `LDH (n),A`, E0 (R162). -/
def execLdhAtN_A (n : Byte) (s : State) : Result :=
  ldAtA (highPage n) 3 s

/-- `POP HL`, E1 (R174). -/
def execPopHL (s : State) : Result :=
  popPair .hl s

/-- `LD (C),A`, E2 (R164). -/
def execLdAtC_A (s : State) : Result :=
  ldAtA (highPage s.c) 2 s

/-- `PUSH HL`, E5 (R173). -/
def execPushHL (s : State) : Result :=
  pushPair .hl s

/-- `LD (nn),A`, EA (R160). -/
def execLdAtNN_A (nn : Word) (s : State) : Result :=
  ldAtA nn 4 s

/-- `LDH A,(n)`, F0 (R161). -/
def execLdhA_atN (n : Byte) (s : State) : Result :=
  ldAAt (highPage n) 3 s

/-- `POP AF`, F1 (R175). -/
def execPopAF (s : State) : Result :=
  popPair .af s

/-- `LD A,(C)`, F2 (R163). -/
def execLdA_atC (s : State) : Result :=
  ldAAt (highPage s.c) 2 s

/-- `PUSH AF`, F5 (R173). -/
def execPushAF (s : State) : Result :=
  pushPair .af s

/-- `LD HL,SP+e`, F8 (R172). -/
def execLdHL_SPe (e : Byte) (s : State) : Result :=
  let out := add16Signed8 s.sp e
  .next (((s.setHL out.1).writeFlags out.2).charge 3)

/-- `LD SP,HL`, F9 (R171). -/
def execLdSP_HL (s : State) : Result :=
  .next ({ s with sp := s.hl }.charge 2)

/-- `LD A,(nn)`, FA (R159). -/
def execLdA_atNN (nn : Word) (s : State) : Result :=
  ldAAt nn 4 s

end Sys2Proof.Machine
end

