-- ==== Sys2Proof/Machine/System.lean ====
section
/-! DEFINITION. The control instructions, the prefix row and the eleven undefined primary opcodes (47_system.md R280 to
R286): one meaning per table row. -/

namespace Sys2Proof.Machine

open Sys2Proof

/-- `NOP`, 00 (R280). -/
def execNop (s : State) : Result :=
  .next (s.charge 1)

/-- `STOP`, 10 (R282). The operand byte is fetched and ignored. -/
def execStop (_n : Byte) (s : State) : Result :=
  .next ({ s with stopped := true }.charge 1)

/-- `HALT`, 76 (R281). -/
def execHalt (s : State) : Result :=
  .next ({ s with halted := true }.charge 1)

/-- `PREFIX CB`, CB (R285). The extended opcode byte is fetched through PC and recorded, and the
extended rule runs with its own cost alone (R302). -/
def execPrefixCB (s : State) : Result :=
  let (b, t) := s.imm8
  execExtended b { t with currentExtendedOpcode := b }

/-- `DI`, F3 (R283). -/
def execDi (s : State) : Result :=
  .next ({ s with ime := false }.charge 1)

/-- `EI`, FB (R284). -/
def execEi (s : State) : Result :=
  .next ({ s with ime := true }.charge 1)

/-- `(undefined)`, D3 (R286). -/
def execUndefinedD3 (s : State) : Result :=
  .next (s.lock.charge 1)

/-- `(undefined)`, DB (R286). -/
def execUndefinedDB (s : State) : Result :=
  .next (s.lock.charge 1)

/-- `(undefined)`, DD (R286). -/
def execUndefinedDD (s : State) : Result :=
  .next (s.lock.charge 1)

/-- `(undefined)`, E3 (R286). -/
def execUndefinedE3 (s : State) : Result :=
  .next (s.lock.charge 1)

/-- `(undefined)`, E4 (R286). -/
def execUndefinedE4 (s : State) : Result :=
  .next (s.lock.charge 1)

/-- `(undefined)`, EB (R286). -/
def execUndefinedEB (s : State) : Result :=
  .next (s.lock.charge 1)

/-- `(undefined)`, EC (R286). -/
def execUndefinedEC (s : State) : Result :=
  .next (s.lock.charge 1)

/-- `(undefined)`, ED (R286). -/
def execUndefinedED (s : State) : Result :=
  .next (s.lock.charge 1)

/-- `(undefined)`, F4 (R286). -/
def execUndefinedF4 (s : State) : Result :=
  .next (s.lock.charge 1)

/-- `(undefined)`, FC (R286). -/
def execUndefinedFC (s : State) : Result :=
  .next (s.lock.charge 1)

/-- `(undefined)`, FD (R286). -/
def execUndefinedFD (s : State) : Result :=
  .next (s.lock.charge 1)

end Sys2Proof.Machine
end

