-- ==== Sys2Proof/Machine/Fetch.lean ====
section
/-! DEFINITION. Fetching an instruction's bytes (48_execution_loop.md R297, 00_scope.md R13) and what the fetches leave in
the state before the instruction's rule runs. Memory reads have no side effect (R67) and every operand byte is fetched
before any data access (R80), so the whole instruction is fetched at once (log entry 3). -/

namespace Sys2Proof.Machine

open Sys2Proof

/-- The opcode byte: the byte at PC (R32, R297). -/
def State.fetchByte0 (s : State) : Byte := s.read8 s.pc

/-- The byte after it; addresses wrap (R33). -/
def State.fetchByte1 (s : State) : Byte := s.read8 (s.pc + 1)

/-- The byte after that. -/
def State.fetchByte2 (s : State) : Byte := s.read8 (s.pc + 2)

/-- The instruction at PC (R107, R298). -/
def State.fetch (s : State) : Instr := decodeBytes s.fetchByte0 s.fetchByte1 s.fetchByte2

/-- The state once the instruction's bytes are fetched: PC past them, modulo 2^16 (R32 to R34); the opcode byte in
`current_opcode` (R41); the extended byte in `current_extended_opcode` for a prefixed instruction only (R42); the
instruction clock at 0 (R301). -/
def State.afterFetch (s : State) : State :=
  { s with
    pc := s.pc + BitVec.ofNat 16 (instrLength s.fetchByte0)
    currentOpcode := s.fetchByte0
    currentExtendedOpcode := if s.fetchByte0 = prefixByte then s.fetchByte1 else s.currentExtendedOpcode
    insM := 0 }

end Sys2Proof.Machine
end

