-- ==== Sys2Proof/Machine/Step.lean ====
section
/-! DEFINITION. One step of the execution loop (48_execution_loop.md R296), and the placing of an instruction where the next
step fetches it. -/

namespace Sys2Proof.Machine

open Sys2Proof

/-- One step with a given INTERRUPT_HOOK (R296, R310): the hook, then an idle step if a run state is set (R303), else
fetch, dispatch and charge. -/
def stepWith (hook : State → State) (s : State) : Host.Outcome State Fault Refusal :=
  let t := hook s
  if t.idle then .next t.idleStep else exec t.fetch t.afterFetch

/-- One step with the default hook (R310, D10). -/
def step (s : State) : Host.Outcome State Fault Refusal := stepWith interruptHook s

/-- `s` with a word of spec/opcode_table.json stored at PC, where `step` fetches its next instruction, zeros after it, and
no run state set, which would keep `step` from fetching (log entry 7). -/
def State.withFetchWord (s : State) (nbits w : Nat) : State := s.wake.load s.pc (tableWindow nbits w)

end Sys2Proof.Machine
end

