-- ==== Sys2Proof/Machine/Inspect.lean ====
section
/-! DEFINITION. The inspection surface (48_execution_loop.md R318, R319). The read accessors are the fields of `State` and
the views of Operands.lean (`f`, `af`, `bc`, `de`, `hl`); here are the derived clocks and the snapshot. -/

namespace Sys2Proof.Machine

open Sys2Proof

/-- `sys_t = 4 * sys_m` (R43, R353). -/
def State.sysT (s : State) : Nat := Config.clockPeriodsPerCycle * s.sysM

/-- `ins_t = 4 * ins_m` (R44, R353). -/
def State.insT (s : State) : Nat := Config.clockPeriodsPerCycle * s.insM

/-- The state record of R51 as a value (R319): everything but memory, F as its byte. -/
structure Snapshot where
  a : Byte
  f : Byte
  b : Byte
  c : Byte
  d : Byte
  e : Byte
  h : Byte
  l : Byte
  sp : Word
  pc : Word
  ime : Bool
  halted : Bool
  stopped : Bool
  locked : Bool
  currentOpcode : Byte
  currentExtendedOpcode : Byte
  sysM : Nat
  insM : Nat
deriving DecidableEq, Repr

/-- `snapshot()` (R319). -/
def State.snapshot (s : State) : Snapshot :=
  { a := s.a, f := s.f, b := s.b, c := s.c, d := s.d, e := s.e, h := s.h, l := s.l, sp := s.sp, pc := s.pc,
    ime := s.ime, halted := s.halted, stopped := s.stopped, locked := s.locked,
    currentOpcode := s.currentOpcode, currentExtendedOpcode := s.currentExtendedOpcode, sysM := s.sysM, insM := s.insM }

/-- Load a snapshot (R319); memory is not part of it and stays. -/
def State.restore (s : State) (r : Snapshot) : State :=
  { a := r.a, flags := Flags.ofByte r.f, b := r.b, c := r.c, d := r.d, e := r.e, h := r.h, l := r.l,
    sp := r.sp, pc := r.pc, ime := r.ime, halted := r.halted, stopped := r.stopped, locked := r.locked,
    currentOpcode := r.currentOpcode, currentExtendedOpcode := r.currentExtendedOpcode,
    sysM := r.sysM, insM := r.insM, mem := s.mem }

end Sys2Proof.Machine
end

