-- ==== Sys2Proof/Machine/Run.lean ====
section
/-! DEFINITION. `run(cycle_budget)` (48_execution_loop.md R304). -/

namespace Sys2Proof.Machine

open Sys2Proof

/-- What `step()` returns for a step from `s` to `t`: the machine cycles it added to the system clock (R296, R309). -/
def stepCost (s t : State) : Nat := t.sysM - s.sysM

/-- The loop of R304: while the running total is below the budget, one more step. `fuel` bounds the number of steps; every
step costs at least 1, so a fuel equal to the budget never cuts the loop short. -/
def runLoop : (fuel budget total : Nat) → State → Host.Outcome (State × Nat) Fault Refusal
  | 0, _, total, s => .next (s, total)
  | fuel + 1, budget, total, s =>
    if total < budget then
      match step s with
      | .next t => runLoop fuel budget (total + stepCost s t) t
      | .fault r => .fault r
      | .refused r => .refused r
    else .next (s, total)

/-- `run(cycle_budget: u32) -> u32` (R304): the new state, and the cycles charged reduced modulo 2^32 (D13). -/
def run (budget : BitVec 32) (s : State) : Host.Outcome (State × BitVec 32) Fault Refusal :=
  match runLoop budget.toNat budget.toNat 0 s with
  | .next (t, total) => .next (t, BitVec.ofNat 32 total)
  | .fault r => .fault r
  | .refused r => .refused r

end Sys2Proof.Machine
end

