-- ==== Sys2Proof/Machine/Tables.lean ====
section
/-! DEFINITION. The two timing tables (48_execution_loop.md R306, R307), written as the spec prints them, and the `flags`
column of spec/opcode_table.json (R106, R17). The meanings charge the cycles and write the flags their own instruction
rules name; the tables are stated equal to that (Certificates/Slice0/Obligations.lean). -/

namespace Sys2Proof.Machine

open Sys2Proof

/-- The cell of a 16 by 16 table at row `op[7:4]` and column `op[3:0]`. -/
def tableCell {α : Type} (table : List (List α)) (op : Byte) (absent : α) : α :=
  (table.getD (op.toNat / 16) []).getD (op.toNat % 16) absent

/-- The primary timing table `T0` (R306); for a conditional opcode, the not-taken cost. -/
def timingT0 : List (List Nat) :=
  [[1, 3, 2, 2, 1, 1, 2, 1, 5, 2, 2, 2, 1, 1, 2, 1],
   [1, 3, 2, 2, 1, 1, 2, 1, 3, 2, 2, 2, 1, 1, 2, 1],
   [2, 3, 2, 2, 1, 1, 2, 1, 2, 2, 2, 2, 1, 1, 2, 1],
   [2, 3, 2, 2, 3, 3, 3, 1, 2, 2, 2, 2, 1, 1, 2, 1]] ++
  [[1, 1, 1, 1, 1, 1, 2, 1, 1, 1, 1, 1, 1, 1, 2, 1],
   [1, 1, 1, 1, 1, 1, 2, 1, 1, 1, 1, 1, 1, 1, 2, 1],
   [1, 1, 1, 1, 1, 1, 2, 1, 1, 1, 1, 1, 1, 1, 2, 1],
   [2, 2, 2, 2, 2, 2, 1, 2, 1, 1, 1, 1, 1, 1, 2, 1]] ++
  [[1, 1, 1, 1, 1, 1, 2, 1, 1, 1, 1, 1, 1, 1, 2, 1],
   [1, 1, 1, 1, 1, 1, 2, 1, 1, 1, 1, 1, 1, 1, 2, 1],
   [1, 1, 1, 1, 1, 1, 2, 1, 1, 1, 1, 1, 1, 1, 2, 1],
   [1, 1, 1, 1, 1, 1, 2, 1, 1, 1, 1, 1, 1, 1, 2, 1]] ++
  [[2, 3, 3, 4, 3, 4, 2, 4, 2, 4, 3, 1, 3, 6, 2, 4],
   [2, 3, 3, 1, 3, 4, 2, 4, 2, 4, 3, 1, 3, 1, 2, 4],
   [3, 3, 2, 1, 1, 4, 2, 4, 4, 1, 4, 1, 1, 1, 2, 4],
   [3, 3, 2, 1, 1, 4, 2, 4, 3, 2, 4, 1, 1, 1, 2, 4]]

/-- The same table with the taken cost `b` in each cell `a/b` (R306). -/
def timingT0Taken : List (List Nat) :=
  [[1, 3, 2, 2, 1, 1, 2, 1, 5, 2, 2, 2, 1, 1, 2, 1],
   [1, 3, 2, 2, 1, 1, 2, 1, 3, 2, 2, 2, 1, 1, 2, 1],
   [3, 3, 2, 2, 1, 1, 2, 1, 3, 2, 2, 2, 1, 1, 2, 1],
   [3, 3, 2, 2, 3, 3, 3, 1, 3, 2, 2, 2, 1, 1, 2, 1]] ++
  [[1, 1, 1, 1, 1, 1, 2, 1, 1, 1, 1, 1, 1, 1, 2, 1],
   [1, 1, 1, 1, 1, 1, 2, 1, 1, 1, 1, 1, 1, 1, 2, 1],
   [1, 1, 1, 1, 1, 1, 2, 1, 1, 1, 1, 1, 1, 1, 2, 1],
   [2, 2, 2, 2, 2, 2, 1, 2, 1, 1, 1, 1, 1, 1, 2, 1]] ++
  [[1, 1, 1, 1, 1, 1, 2, 1, 1, 1, 1, 1, 1, 1, 2, 1],
   [1, 1, 1, 1, 1, 1, 2, 1, 1, 1, 1, 1, 1, 1, 2, 1],
   [1, 1, 1, 1, 1, 1, 2, 1, 1, 1, 1, 1, 1, 1, 2, 1],
   [1, 1, 1, 1, 1, 1, 2, 1, 1, 1, 1, 1, 1, 1, 2, 1]] ++
  [[5, 3, 4, 4, 6, 4, 2, 4, 5, 4, 4, 1, 6, 6, 2, 4],
   [5, 3, 4, 1, 6, 4, 2, 4, 5, 4, 4, 1, 6, 1, 2, 4],
   [3, 3, 2, 1, 1, 4, 2, 4, 4, 1, 4, 1, 1, 1, 2, 4],
   [3, 3, 2, 1, 1, 4, 2, 4, 3, 2, 4, 1, 1, 1, 2, 4]]

/-- The extended timing table `T1` (R307). -/
def timingT1 : List (List Nat) :=
  [[2, 2, 2, 2, 2, 2, 4, 2, 2, 2, 2, 2, 2, 2, 4, 2],
   [2, 2, 2, 2, 2, 2, 4, 2, 2, 2, 2, 2, 2, 2, 4, 2],
   [2, 2, 2, 2, 2, 2, 4, 2, 2, 2, 2, 2, 2, 2, 4, 2],
   [2, 2, 2, 2, 2, 2, 4, 2, 2, 2, 2, 2, 2, 2, 4, 2]] ++
  [[2, 2, 2, 2, 2, 2, 3, 2, 2, 2, 2, 2, 2, 2, 3, 2],
   [2, 2, 2, 2, 2, 2, 3, 2, 2, 2, 2, 2, 2, 2, 3, 2],
   [2, 2, 2, 2, 2, 2, 3, 2, 2, 2, 2, 2, 2, 2, 3, 2],
   [2, 2, 2, 2, 2, 2, 3, 2, 2, 2, 2, 2, 2, 2, 3, 2]] ++
  [[2, 2, 2, 2, 2, 2, 4, 2, 2, 2, 2, 2, 2, 2, 4, 2],
   [2, 2, 2, 2, 2, 2, 4, 2, 2, 2, 2, 2, 2, 2, 4, 2],
   [2, 2, 2, 2, 2, 2, 4, 2, 2, 2, 2, 2, 2, 2, 4, 2],
   [2, 2, 2, 2, 2, 2, 4, 2, 2, 2, 2, 2, 2, 2, 4, 2]] ++
  [[2, 2, 2, 2, 2, 2, 4, 2, 2, 2, 2, 2, 2, 2, 4, 2],
   [2, 2, 2, 2, 2, 2, 4, 2, 2, 2, 2, 2, 2, 2, 4, 2],
   [2, 2, 2, 2, 2, 2, 4, 2, 2, 2, 2, 2, 2, 2, 4, 2],
   [2, 2, 2, 2, 2, 2, 4, 2, 2, 2, 2, 2, 2, 2, 4, 2]]

/-- The conditional opcodes and their conditions (R232, R235, R237, R239). -/
def conditionalOpcodes : List (Byte × Cond) :=
  [(0xC2, .nz), (0xCA, .z), (0xD2, .nc), (0xDA, .c), (0x20, .nz), (0x28, .z), (0x30, .nc), (0x38, .c),
   (0xC4, .nz), (0xCC, .z), (0xD4, .nc), (0xDC, .c), (0xC0, .nz), (0xC8, .z), (0xD0, .nc), (0xD8, .c)]

/-- The condition of a conditional opcode. -/
def conditionOf (op : Byte) : Option Cond := conditionalOpcodes.lookup op

/-- The cost the loop charges for the instruction at PC (R300, R302, R352): `T1` for a prefixed one; else `T0`, or the
taken cost when the opcode is conditional and its condition holds. -/
def State.tableCost (s : State) : Nat :=
  if s.fetchByte0 = prefixByte then tableCell timingT1 s.fetchByte1 0
  else
    match conditionOf s.fetchByte0 with
    | some cond => if condHolds cond s.flags then tableCell timingT0Taken s.fetchByte0 0 else tableCell timingT0 s.fetchByte0 0
    | none => tableCell timingT0 s.fetchByte0 0

/-! ## The flags column -/

/-- One letter of a flags string (R17). -/
inductive FlagMark where
  | kept | zero | one | computed
deriving DecidableEq, Repr

/-- A flags string, in the order Z N H C (R17). -/
structure FlagPattern where
  z : FlagMark
  n : FlagMark
  h : FlagMark
  c : FlagMark
deriving DecidableEq, Repr

/-- `----`. -/
def FlagPattern.keeps : FlagPattern := ⟨.kept, .kept, .kept, .kept⟩

/-- `Z0HC`. -/
def FlagPattern.z0hc : FlagPattern := ⟨.computed, .zero, .computed, .computed⟩

/-- `Z1HC`. -/
def FlagPattern.z1hc : FlagPattern := ⟨.computed, .one, .computed, .computed⟩

/-- `Z0H-`. -/
def FlagPattern.z0hk : FlagPattern := ⟨.computed, .zero, .computed, .kept⟩

/-- `Z1H-`. -/
def FlagPattern.z1hk : FlagPattern := ⟨.computed, .one, .computed, .kept⟩

/-- `000C`. -/
def FlagPattern.p000c : FlagPattern := ⟨.zero, .zero, .zero, .computed⟩

/-- `-0HC`. -/
def FlagPattern.k0hc : FlagPattern := ⟨.kept, .zero, .computed, .computed⟩

/-- `00HC`. -/
def FlagPattern.p00hc : FlagPattern := ⟨.zero, .zero, .computed, .computed⟩

/-- `Z-0C`. -/
def FlagPattern.zk0c : FlagPattern := ⟨.computed, .kept, .zero, .computed⟩

/-- `-11-`. -/
def FlagPattern.k11k : FlagPattern := ⟨.kept, .one, .one, .kept⟩

/-- `-001`. -/
def FlagPattern.k001 : FlagPattern := ⟨.kept, .zero, .zero, .one⟩

/-- `-00C`. -/
def FlagPattern.k00c : FlagPattern := ⟨.kept, .zero, .zero, .computed⟩

/-- `Z010`. -/
def FlagPattern.z010 : FlagPattern := ⟨.computed, .zero, .one, .zero⟩

/-- `Z000`. -/
def FlagPattern.z000 : FlagPattern := ⟨.computed, .zero, .zero, .zero⟩

/-- `Z00C`. -/
def FlagPattern.z00c : FlagPattern := ⟨.computed, .zero, .zero, .computed⟩

/-- `Z01-`. -/
def FlagPattern.z01k : FlagPattern := ⟨.computed, .zero, .one, .kept⟩

/-- `ZNHC`. -/
def FlagPattern.znhc : FlagPattern := ⟨.computed, .computed, .computed, .computed⟩

/-- The `flags` column of the 256 primary rows. -/
def flagsColumn : List (List FlagPattern) :=
  [[FlagPattern.keeps, FlagPattern.keeps, FlagPattern.keeps, FlagPattern.keeps, FlagPattern.z0hk, FlagPattern.z1hk, FlagPattern.keeps, FlagPattern.p000c, FlagPattern.keeps, FlagPattern.k0hc, FlagPattern.keeps, FlagPattern.keeps, FlagPattern.z0hk, FlagPattern.z1hk, FlagPattern.keeps, FlagPattern.p000c],
   [FlagPattern.keeps, FlagPattern.keeps, FlagPattern.keeps, FlagPattern.keeps, FlagPattern.z0hk, FlagPattern.z1hk, FlagPattern.keeps, FlagPattern.p000c, FlagPattern.keeps, FlagPattern.k0hc, FlagPattern.keeps, FlagPattern.keeps, FlagPattern.z0hk, FlagPattern.z1hk, FlagPattern.keeps, FlagPattern.p000c],
   [FlagPattern.keeps, FlagPattern.keeps, FlagPattern.keeps, FlagPattern.keeps, FlagPattern.z0hk, FlagPattern.z1hk, FlagPattern.keeps, FlagPattern.zk0c, FlagPattern.keeps, FlagPattern.k0hc, FlagPattern.keeps, FlagPattern.keeps, FlagPattern.z0hk, FlagPattern.z1hk, FlagPattern.keeps, FlagPattern.k11k],
   [FlagPattern.keeps, FlagPattern.keeps, FlagPattern.keeps, FlagPattern.keeps, FlagPattern.z0hk, FlagPattern.z1hk, FlagPattern.keeps, FlagPattern.k001, FlagPattern.keeps, FlagPattern.k0hc, FlagPattern.keeps, FlagPattern.keeps, FlagPattern.z0hk, FlagPattern.z1hk, FlagPattern.keeps, FlagPattern.k00c],
   [FlagPattern.keeps, FlagPattern.keeps, FlagPattern.keeps, FlagPattern.keeps, FlagPattern.keeps, FlagPattern.keeps, FlagPattern.keeps, FlagPattern.keeps, FlagPattern.keeps, FlagPattern.keeps, FlagPattern.keeps, FlagPattern.keeps, FlagPattern.keeps, FlagPattern.keeps, FlagPattern.keeps, FlagPattern.keeps],
   [FlagPattern.keeps, FlagPattern.keeps, FlagPattern.keeps, FlagPattern.keeps, FlagPattern.keeps, FlagPattern.keeps, FlagPattern.keeps, FlagPattern.keeps, FlagPattern.keeps, FlagPattern.keeps, FlagPattern.keeps, FlagPattern.keeps, FlagPattern.keeps, FlagPattern.keeps, FlagPattern.keeps, FlagPattern.keeps],
   [FlagPattern.keeps, FlagPattern.keeps, FlagPattern.keeps, FlagPattern.keeps, FlagPattern.keeps, FlagPattern.keeps, FlagPattern.keeps, FlagPattern.keeps, FlagPattern.keeps, FlagPattern.keeps, FlagPattern.keeps, FlagPattern.keeps, FlagPattern.keeps, FlagPattern.keeps, FlagPattern.keeps, FlagPattern.keeps],
   [FlagPattern.keeps, FlagPattern.keeps, FlagPattern.keeps, FlagPattern.keeps, FlagPattern.keeps, FlagPattern.keeps, FlagPattern.keeps, FlagPattern.keeps, FlagPattern.keeps, FlagPattern.keeps, FlagPattern.keeps, FlagPattern.keeps, FlagPattern.keeps, FlagPattern.keeps, FlagPattern.keeps, FlagPattern.keeps],
   [FlagPattern.z0hc, FlagPattern.z0hc, FlagPattern.z0hc, FlagPattern.z0hc, FlagPattern.z0hc, FlagPattern.z0hc, FlagPattern.z0hc, FlagPattern.z0hc, FlagPattern.z0hc, FlagPattern.z0hc, FlagPattern.z0hc, FlagPattern.z0hc, FlagPattern.z0hc, FlagPattern.z0hc, FlagPattern.z0hc, FlagPattern.z0hc],
   [FlagPattern.z1hc, FlagPattern.z1hc, FlagPattern.z1hc, FlagPattern.z1hc, FlagPattern.z1hc, FlagPattern.z1hc, FlagPattern.z1hc, FlagPattern.z1hc, FlagPattern.z1hc, FlagPattern.z1hc, FlagPattern.z1hc, FlagPattern.z1hc, FlagPattern.z1hc, FlagPattern.z1hc, FlagPattern.z1hc, FlagPattern.z1hc],
   [FlagPattern.z010, FlagPattern.z010, FlagPattern.z010, FlagPattern.z010, FlagPattern.z010, FlagPattern.z010, FlagPattern.z010, FlagPattern.z010, FlagPattern.z000, FlagPattern.z000, FlagPattern.z000, FlagPattern.z000, FlagPattern.z000, FlagPattern.z000, FlagPattern.z000, FlagPattern.z000],
   [FlagPattern.z000, FlagPattern.z000, FlagPattern.z000, FlagPattern.z000, FlagPattern.z000, FlagPattern.z000, FlagPattern.z000, FlagPattern.z000, FlagPattern.z1hc, FlagPattern.z1hc, FlagPattern.z1hc, FlagPattern.z1hc, FlagPattern.z1hc, FlagPattern.z1hc, FlagPattern.z1hc, FlagPattern.z1hc],
   [FlagPattern.keeps, FlagPattern.keeps, FlagPattern.keeps, FlagPattern.keeps, FlagPattern.keeps, FlagPattern.keeps, FlagPattern.z0hc, FlagPattern.keeps, FlagPattern.keeps, FlagPattern.keeps, FlagPattern.keeps, FlagPattern.keeps, FlagPattern.keeps, FlagPattern.keeps, FlagPattern.z0hc, FlagPattern.keeps],
   [FlagPattern.keeps, FlagPattern.keeps, FlagPattern.keeps, FlagPattern.keeps, FlagPattern.keeps, FlagPattern.keeps, FlagPattern.z1hc, FlagPattern.keeps, FlagPattern.keeps, FlagPattern.keeps, FlagPattern.keeps, FlagPattern.keeps, FlagPattern.keeps, FlagPattern.keeps, FlagPattern.z1hc, FlagPattern.keeps],
   [FlagPattern.keeps, FlagPattern.keeps, FlagPattern.keeps, FlagPattern.keeps, FlagPattern.keeps, FlagPattern.keeps, FlagPattern.z010, FlagPattern.keeps, FlagPattern.p00hc, FlagPattern.keeps, FlagPattern.keeps, FlagPattern.keeps, FlagPattern.keeps, FlagPattern.keeps, FlagPattern.z000, FlagPattern.keeps],
   [FlagPattern.keeps, FlagPattern.znhc, FlagPattern.keeps, FlagPattern.keeps, FlagPattern.keeps, FlagPattern.keeps, FlagPattern.z000, FlagPattern.keeps, FlagPattern.p00hc, FlagPattern.keeps, FlagPattern.keeps, FlagPattern.keeps, FlagPattern.keeps, FlagPattern.keeps, FlagPattern.z1hc, FlagPattern.keeps]]

/-- The `flags` column of the 256 extended rows. -/
def flagsColumnExtended : List (List FlagPattern) :=
  [[FlagPattern.z00c, FlagPattern.z00c, FlagPattern.z00c, FlagPattern.z00c, FlagPattern.z00c, FlagPattern.z00c, FlagPattern.z00c, FlagPattern.z00c, FlagPattern.z00c, FlagPattern.z00c, FlagPattern.z00c, FlagPattern.z00c, FlagPattern.z00c, FlagPattern.z00c, FlagPattern.z00c, FlagPattern.z00c],
   [FlagPattern.z00c, FlagPattern.z00c, FlagPattern.z00c, FlagPattern.z00c, FlagPattern.z00c, FlagPattern.z00c, FlagPattern.z00c, FlagPattern.z00c, FlagPattern.z00c, FlagPattern.z00c, FlagPattern.z00c, FlagPattern.z00c, FlagPattern.z00c, FlagPattern.z00c, FlagPattern.z00c, FlagPattern.z00c],
   [FlagPattern.z00c, FlagPattern.z00c, FlagPattern.z00c, FlagPattern.z00c, FlagPattern.z00c, FlagPattern.z00c, FlagPattern.z00c, FlagPattern.z00c, FlagPattern.z00c, FlagPattern.z00c, FlagPattern.z00c, FlagPattern.z00c, FlagPattern.z00c, FlagPattern.z00c, FlagPattern.z00c, FlagPattern.z00c],
   [FlagPattern.z000, FlagPattern.z000, FlagPattern.z000, FlagPattern.z000, FlagPattern.z000, FlagPattern.z000, FlagPattern.z000, FlagPattern.z000, FlagPattern.z00c, FlagPattern.z00c, FlagPattern.z00c, FlagPattern.z00c, FlagPattern.z00c, FlagPattern.z00c, FlagPattern.z00c, FlagPattern.z00c],
   [FlagPattern.z01k, FlagPattern.z01k, FlagPattern.z01k, FlagPattern.z01k, FlagPattern.z01k, FlagPattern.z01k, FlagPattern.z01k, FlagPattern.z01k, FlagPattern.z01k, FlagPattern.z01k, FlagPattern.z01k, FlagPattern.z01k, FlagPattern.z01k, FlagPattern.z01k, FlagPattern.z01k, FlagPattern.z01k],
   [FlagPattern.z01k, FlagPattern.z01k, FlagPattern.z01k, FlagPattern.z01k, FlagPattern.z01k, FlagPattern.z01k, FlagPattern.z01k, FlagPattern.z01k, FlagPattern.z01k, FlagPattern.z01k, FlagPattern.z01k, FlagPattern.z01k, FlagPattern.z01k, FlagPattern.z01k, FlagPattern.z01k, FlagPattern.z01k],
   [FlagPattern.z01k, FlagPattern.z01k, FlagPattern.z01k, FlagPattern.z01k, FlagPattern.z01k, FlagPattern.z01k, FlagPattern.z01k, FlagPattern.z01k, FlagPattern.z01k, FlagPattern.z01k, FlagPattern.z01k, FlagPattern.z01k, FlagPattern.z01k, FlagPattern.z01k, FlagPattern.z01k, FlagPattern.z01k],
   [FlagPattern.z01k, FlagPattern.z01k, FlagPattern.z01k, FlagPattern.z01k, FlagPattern.z01k, FlagPattern.z01k, FlagPattern.z01k, FlagPattern.z01k, FlagPattern.z01k, FlagPattern.z01k, FlagPattern.z01k, FlagPattern.z01k, FlagPattern.z01k, FlagPattern.z01k, FlagPattern.z01k, FlagPattern.z01k],
   [FlagPattern.keeps, FlagPattern.keeps, FlagPattern.keeps, FlagPattern.keeps, FlagPattern.keeps, FlagPattern.keeps, FlagPattern.keeps, FlagPattern.keeps, FlagPattern.keeps, FlagPattern.keeps, FlagPattern.keeps, FlagPattern.keeps, FlagPattern.keeps, FlagPattern.keeps, FlagPattern.keeps, FlagPattern.keeps],
   [FlagPattern.keeps, FlagPattern.keeps, FlagPattern.keeps, FlagPattern.keeps, FlagPattern.keeps, FlagPattern.keeps, FlagPattern.keeps, FlagPattern.keeps, FlagPattern.keeps, FlagPattern.keeps, FlagPattern.keeps, FlagPattern.keeps, FlagPattern.keeps, FlagPattern.keeps, FlagPattern.keeps, FlagPattern.keeps],
   [FlagPattern.keeps, FlagPattern.keeps, FlagPattern.keeps, FlagPattern.keeps, FlagPattern.keeps, FlagPattern.keeps, FlagPattern.keeps, FlagPattern.keeps, FlagPattern.keeps, FlagPattern.keeps, FlagPattern.keeps, FlagPattern.keeps, FlagPattern.keeps, FlagPattern.keeps, FlagPattern.keeps, FlagPattern.keeps],
   [FlagPattern.keeps, FlagPattern.keeps, FlagPattern.keeps, FlagPattern.keeps, FlagPattern.keeps, FlagPattern.keeps, FlagPattern.keeps, FlagPattern.keeps, FlagPattern.keeps, FlagPattern.keeps, FlagPattern.keeps, FlagPattern.keeps, FlagPattern.keeps, FlagPattern.keeps, FlagPattern.keeps, FlagPattern.keeps],
   [FlagPattern.keeps, FlagPattern.keeps, FlagPattern.keeps, FlagPattern.keeps, FlagPattern.keeps, FlagPattern.keeps, FlagPattern.keeps, FlagPattern.keeps, FlagPattern.keeps, FlagPattern.keeps, FlagPattern.keeps, FlagPattern.keeps, FlagPattern.keeps, FlagPattern.keeps, FlagPattern.keeps, FlagPattern.keeps],
   [FlagPattern.keeps, FlagPattern.keeps, FlagPattern.keeps, FlagPattern.keeps, FlagPattern.keeps, FlagPattern.keeps, FlagPattern.keeps, FlagPattern.keeps, FlagPattern.keeps, FlagPattern.keeps, FlagPattern.keeps, FlagPattern.keeps, FlagPattern.keeps, FlagPattern.keeps, FlagPattern.keeps, FlagPattern.keeps],
   [FlagPattern.keeps, FlagPattern.keeps, FlagPattern.keeps, FlagPattern.keeps, FlagPattern.keeps, FlagPattern.keeps, FlagPattern.keeps, FlagPattern.keeps, FlagPattern.keeps, FlagPattern.keeps, FlagPattern.keeps, FlagPattern.keeps, FlagPattern.keeps, FlagPattern.keeps, FlagPattern.keeps, FlagPattern.keeps],
   [FlagPattern.keeps, FlagPattern.keeps, FlagPattern.keeps, FlagPattern.keeps, FlagPattern.keeps, FlagPattern.keeps, FlagPattern.keeps, FlagPattern.keeps, FlagPattern.keeps, FlagPattern.keeps, FlagPattern.keeps, FlagPattern.keeps, FlagPattern.keeps, FlagPattern.keeps, FlagPattern.keeps, FlagPattern.keeps]]

/-- The row's flags string for the instruction at PC. -/
def State.tableFlags (s : State) : FlagPattern :=
  if s.fetchByte0 = prefixByte then tableCell flagsColumnExtended s.fetchByte1 .keeps
  else tableCell flagsColumn s.fetchByte0 .keeps

/-- A flag before and after an instruction agrees with its letter: `-` keeps it, `0` and `1` write that value (R17). -/
def FlagMark.Allows (m : FlagMark) (before after : Bool) : Prop :=
  match m with
  | .kept => after = before
  | .zero => after = false
  | .one => after = true
  | .computed => True

/-- The flags before and after an instruction agree with its flags string. -/
def FlagPattern.Allows (p : FlagPattern) (before after : Flags) : Prop :=
  p.z.Allows before.z after.z ∧ p.n.Allows before.n after.n ∧ p.h.Allows before.h after.h ∧ p.c.Allows before.c after.c

end Sys2Proof.Machine
end

