-- ==== Sys2Proof/Safety.lean ====
section
/-! DEFINITION. The words the statements are written in: what an instruction may change (frames), the bytes it stores to,
the invariants of the machine, and what counts as the same architectural state. -/

namespace Sys2Proof.Machine

open Sys2Proof

/-! ## Frames -/

/-- What an instruction may change besides the clocks: the 8-bit registers, the flags, SP, PC, the run-state bits and the
bytes of memory it names. Everything else is kept. -/
structure MayWrite where
  regs : List Reg8 := []
  flags : Bool := false
  sp : Bool := false
  pc : Bool := false
  ime : Bool := false
  halted : Bool := false
  stopped : Bool := false
  locked : Bool := false
  bytes : List Word := []

/-- From `s` to `t` nothing changes but what `w` names, and both clocks advance by exactly `cycles`. -/
structure UnchangedExcept (w : MayWrite) (cycles : Nat) (s t : State) : Prop where
  regs : ∀ r, r ∉ w.regs → t.reg r = s.reg r
  flags : w.flags = false → t.flags = s.flags
  sp : w.sp = false → t.sp = s.sp
  pc : w.pc = false → t.pc = s.pc
  ime : w.ime = false → t.ime = s.ime
  halted : w.halted = false → t.halted = s.halted
  stopped : w.stopped = false → t.stopped = s.stopped
  locked : w.locked = false → t.locked = s.locked
  currentOpcode : t.currentOpcode = s.currentOpcode
  currentExtendedOpcode : t.currentExtendedOpcode = s.currentExtendedOpcode
  bytes : ∀ x : Word, x ∉ w.bytes → t.read8 x = s.read8 x
  insM : t.insM = s.insM + cycles
  sysM : t.sysM = s.sysM + cycles

/-- The halves of a register pair; SP has none (R21, R91). -/
def pairHalves : Pair → List Reg8
  | .bc => [.b, .c]
  | .de => [.d, .e]
  | .hl => [.h, .l]
  | .sp => []

/-- The halves of a pushed or popped pair; of AF only A is an `r8` register, F is the flags (R21, R92). -/
def stackPairHalves : StackPair → List Reg8
  | .bc => [.b, .c]
  | .de => [.d, .e]
  | .hl => [.h, .l]
  | .af => [.a]

/-- The register an `r8` operand is. -/
def opndRegs : Opnd8 → List Reg8
  | .reg r => [r]
  | .atHL => []

/-- The byte of memory an `r8` operand is. -/
def opndBytes (o : Opnd8) (s : State) : List Word :=
  match o with
  | .reg _ => []
  | .atHL => [s.hl]

/-- The instruction completes: `exec` answers a next state, and that state satisfies `P`. -/
def Completes (i : Instr) (s : State) (P : State → Prop) : Prop := ∃ t, exec i s = .next t ∧ P t

/-- From `s` to `t`: PC pushed (low byte at SP - 2, high byte at SP - 1), SP down by 2, PC at `target`, nothing else but
the clocks (R71, R236). -/
def CallsTo (target : Word) (cycles : Nat) (s t : State) : Prop :=
  t.pc = target ∧ t.sp = s.sp - 2 ∧ t.read8 (s.sp - 2) = loByte s.pc ∧ t.read8 (s.sp - 1) = hiByte s.pc ∧
    UnchangedExcept { pc := true, sp := true, bytes := [s.sp - 2, s.sp - 1] } cycles s t

/-- From `s` to `t`: PC is the word at SP, SP up by 2, nothing else but the clocks (R72, R238). -/
def Returns (cycles : Nat) (s t : State) : Prop :=
  t.pc = joinBytes (s.read8 (s.sp + 1)) (s.read8 s.sp) ∧ t.sp = s.sp + 2 ∧
    UnchangedExcept { pc := true, sp := true } cycles s t

/-- From `t` on every step is idle: after `k` steps only the system clock has moved, by `k` (R303). -/
def StaysIdle (t : State) : Prop :=
  ∀ k : Nat, Host.Core.run Sys2Proof.core k t = .next ({ t with sysM := t.sysM + k } : State)

/-! ## The numbers of the encoding fields (R90 to R95) -/

/-- The index of a register in `r8(i)` (R90). -/
def regIndex : Reg8 → Byte
  | .b => 0
  | .c => 1
  | .d => 2
  | .e => 3
  | .h => 4
  | .l => 5
  | .a => 7

/-- The index of an operand in `r8(i)` (R90). -/
def opndIndex : Opnd8 → Byte
  | .reg r => regIndex r
  | .atHL => 6

/-- The index of a pair in `rp(p)` (R91). -/
def pairIndex : Pair → Byte
  | .bc => 0
  | .de => 1
  | .hl => 2
  | .sp => 3

/-- The index of a pair in `rp2(p)` (R92). -/
def stackPairIndex : StackPair → Byte
  | .bc => 0
  | .de => 1
  | .hl => 2
  | .af => 3

/-- The index of a condition in `cc(i)` (R93). -/
def condIndex : Cond → Byte
  | .nz => 0
  | .z => 1
  | .nc => 2
  | .c => 3

/-- The index of an operation in `alu(y)` (R94). -/
def aluIndex : AluOp → Byte
  | .add => 0
  | .adc => 1
  | .sub => 2
  | .sbc => 3
  | .and => 4
  | .xor => 5
  | .or => 6
  | .cp => 7

/-- The index of an operation in `rot(y)` (R95). -/
def rotIndex : RotOp → Byte
  | .rlc => 0
  | .rrc => 1
  | .rl => 2
  | .rr => 3
  | .sla => 4
  | .sra => 5
  | .swap => 6
  | .srl => 7

/-- The encodings of an ALU operation's three operand forms: `10yyyzzz`, `10yyy110`, `11yyy110 n` (43_arith8.md
section 1). -/
def AluEncoded (op : AluOp) : Prop :=
  (∀ r, encode (.mkAlu op (.reg r)) = [0x80 + 8 * aluIndex op + regIndex r]) ∧
  encode (.mkAlu op .atHL) = [0x86 + 8 * aluIndex op] ∧
  (∀ n, encode (.mkAlu op (.imm n)) = [0xC6 + 8 * aluIndex op, n])

/-- The cycles of an ALU operation's operand form: `r` 1, `(HL)` 2, `n` 2 (43_arith8.md section 1). -/
def aluCycles : Src8 → Nat
  | .reg _ => 1
  | .atHL => 2
  | .imm _ => 2

/-- The result and the carry of a rotate, shift or SWAP, in arithmetic of numbers and library rotates (R125 to R133):
an account of the eight operations apart from the one the model computes with. -/
def rotAccount (op : RotOp) (v : Byte) (carry : Bool) : Byte × Bool :=
  match op with
  | .rlc => (v.rotateLeft 1, v.msb)
  | .rrc => (v.rotateRight 1, v.getLsbD 0)
  | .rl => (BitVec.ofNat 8 (2 * v.toNat + carry.toNat), v.msb)
  | .rr => (BitVec.ofNat 8 (v.toNat / 2 + 128 * carry.toNat), v.getLsbD 0)
  | .sla => (BitVec.ofNat 8 (2 * v.toNat), v.msb)
  | .sra => (v.sshiftRight 1, v.getLsbD 0)
  | .swap => (v.rotateLeft 4, false)
  | .srl => (BitVec.ofNat 8 (v.toNat / 2), v.getLsbD 0)

/-! ## The bytes an instruction stores to -/

/-- The bytes an extended opcode byte stores to: (HL) for every operation but BIT (R273). -/
def extendedStores (b : Byte) (s : State) : List Word := if opX b ≠ 1 ∧ opZ b = 6 then [s.hl] else []

/-- The bytes an instruction stores to, computed from the state its rule runs on: the address expressions are those of the
rules. An instruction not named stores nothing (R61, R74). -/
def storesOf (i : Instr) (s : State) : List Word :=
  match i with
  | .ldAtBC_A => [s.bc]
  | .ldAtDE_A => [s.de]
  | .ldhAtN_A n => [highPage n]
  | .ldAtC_A => [highPage s.c]
  | .ldAtNN_A nn => [nn]
  | .ldAtNN_SP nn => [nn, nn + 1]
  | .ldAtHL_n _ => [s.hl]
  | .ldAtHLinc_A | .ldAtHLdec_A | .incAtHL | .decAtHL | .ldAtHL_B | .ldAtHL_C | .ldAtHL_D | .ldAtHL_E | .ldAtHL_H
  | .ldAtHL_L | .ldAtHL_A | .rlcAtHL | .rrcAtHL | .rlAtHL | .rrAtHL | .slaAtHL | .sraAtHL | .swapAtHL | .srlAtHL
  | .res0_atHL | .res1_atHL | .res2_atHL | .res3_atHL | .res4_atHL | .res5_atHL | .res6_atHL | .res7_atHL
  | .set0_atHL | .set1_atHL | .set2_atHL | .set3_atHL | .set4_atHL | .set5_atHL | .set6_atHL | .set7_atHL => [s.hl]
  | .pushBC | .rst00 | .rst08 | .pushDE | .rst10 | .rst18 | .pushHL | .rst20 | .rst28 | .pushAF | .rst30 | .rst38 => [s.sp - 2, s.sp - 1]
  | .call _ => [s.sp - 2, s.sp - 1]
  | .callNZ _ => if s.flags.z then [] else [s.sp - 2, s.sp - 1]
  | .callZ _ => if s.flags.z then [s.sp - 2, s.sp - 1] else []
  | .callNC _ => if s.flags.c then [] else [s.sp - 2, s.sp - 1]
  | .callC _ => if s.flags.c then [s.sp - 2, s.sp - 1] else []
  | .prefixCB => extendedStores (s.read8 s.pc) s
  | _ => []

/-! ## Which instructions write the run state (R37 to R40) -/

/-- STOP, whatever its operand byte. -/
def isStop : Instr → Bool
  | .stop _ => true
  | _ => false

/-- IME after an instruction: 0 after DI, 1 after EI and RETI, else kept (R37). -/
def imeAfter (i : Instr) (before : Bool) : Bool :=
  match i with
  | .di => false
  | .ei => true
  | .reti => true
  | _ => before

/-! ## Invariants -/

/-- At most one of the three run states is set (R329). -/
def RunStatesExclusive (s : State) : Prop :=
  ¬(s.halted = true ∧ s.stopped = true) ∧ ¬(s.halted = true ∧ s.locked = true) ∧ ¬(s.stopped = true ∧ s.locked = true)

/-- The invariant every step keeps: memory in canonical form, run states exclusive. (R26, that bits 3:0 of F are zero, and
R33, that PC and SP are 16-bit, hold of every state by the types.) -/
def Inv (s : State) : Prop := Memory.wf s.mem = true ∧ RunStatesExclusive s

/-! ## Bookkeeping -/

/-- The same registers, flags, run state and memory: everything but the bookkeeping of R41 to R44. -/
def SameButBookkeeping (s t : State) : Prop :=
  t = { s with currentOpcode := t.currentOpcode, currentExtendedOpcode := t.currentExtendedOpcode,
               sysM := t.sysM, insM := t.insM }

/-! ## Decimal numbers -/

/-- The packed BCD byte of a number below 100 (R18). -/
def bcd (n : Nat) : Byte := BitVec.ofNat 8 (n / 10 * 16 + n % 10)

end Sys2Proof.Machine
end

