-- ==== Sys2Proof/Certificates/Slice0/Obligations.lean ====
section
/-! DEFINITION. The statements about the model, for the provers: one `def Obligations.<Name> : Prop` each, listed in
OBLIGATIONS.json. `Completes`, `UnchangedExcept` and the other words they use are in Safety.lean; the families of rows
(`Instr.mkAlu` and its like) are in Decode.lean. Statements about `step` and `run` are, like the spec's rules (D10), about
the default of INTERRUPT_HOOK, which does nothing (log entry 2). -/

open Sys2Proof Sys2Proof.Machine

/-- Words of every format and family, written out byte by byte from the primary and extended opcode maps, decode to the
instruction the maps name, with their operand bytes in place. The last clause is the model's choice and no rule of
the spec (log entry 9, DEDUCED): a list of bytes that ends inside its instruction is refused by name; no fetch of
the machine meets such a list. (R97, R98, R100, R101, R96, R99) -/
def Obligations.MapWordsDecodeToTheirInstructions : Prop :=
  decode [0x00] = .ok (.nop, []) ∧
  decode [0x3E, 0x01] = .ok (.ldA_n 0x01, []) ∧
  decode [0x0E, 0x01] = .ok (.ldC_n 0x01, []) ∧
  decode [0x81] = .ok (.addA_C, []) ∧
  decode [0x41] = .ok (.ldB_C, []) ∧
  decode [0x76] = .ok (.halt, []) ∧
  decode [0x10, 0x5A] = .ok (.stop 0x5A, []) ∧
  decode [0x08, 0x00, 0xC1] = .ok (.ldAtNN_SP 0xC100, []) ∧
  decode [0x32] = .ok (.ldAtHLdec_A, []) ∧
  decode [0xE0, 0x80] = .ok (.ldhAtN_A 0x80, []) ∧
  decode [0xF8, 0x08] = .ok (.ldHL_SPe 0x08, []) ∧
  decode [0x39] = .ok (.addHL_SP, []) ∧
  decode [0xCA, 0x34, 0x12] = .ok (.jpZ 0x1234, []) ∧
  decode [0x20, 0xFB] = .ok (.jrNZ 0xFB, []) ∧
  decode [0xFF] = .ok (.rst38, []) ∧
  decode [0xD9] = .ok (.reti, []) ∧
  decode [0xDD] = .ok (.undefinedDD, []) ∧
  decode [0xCB, 0x37] = .ok (.swapA, []) ∧
  decode [0xCB, 0x7C] = .ok (.bit7_H, []) ∧
  decode [0xCB, 0x86] = .ok (.res0_atHL, []) ∧
  decode [0xCB, 0xF8] = .ok (.set7_B, []) ∧
  decode [0xCD, 0x00] = .error (.truncated 0xCD)

/-- The fields r8, rp, rp2, cc, alu and rot give, index by index, what the tables of R90 to R95 list. The operand (HL)
is the byte at HL, read and written there. The conditions NZ, Z, NC, C test F.Z and F.C. Opcode 0x81 is ADD A,C;
0x0E loads C and 0x3E loads A. (R90, R91, R92, R93, R94, R95) -/
def Obligations.EncodingFieldsNameTheirOperands : Prop :=
  [r8 0, r8 1, r8 2, r8 3, r8 4, r8 5, r8 6, r8 7] =
    [.reg .b, .reg .c, .reg .d, .reg .e, .reg .h, .reg .l, .atHL, .reg .a] ∧
  (∀ (s : State) (v : Byte), s.opnd .atHL = s.read8 s.hl ∧ s.setOpnd .atHL v = s.write8 s.hl v) ∧
  [rp 0, rp 1, rp 2, rp 3] = [.bc, .de, .hl, .sp] ∧
  [rp2 0, rp2 1, rp2 2, rp2 3] = [.bc, .de, .hl, .af] ∧
  [cc 0, cc 1, cc 2, cc 3] = [.nz, .z, .nc, .c] ∧
  (∀ f : Flags, condHolds .nz f = !f.z ∧ condHolds .z f = f.z ∧ condHolds .nc f = !f.c ∧ condHolds .c f = f.c) ∧
  [alu 0, alu 1, alu 2, alu 3, alu 4, alu 5, alu 6, alu 7] = [.add, .adc, .sub, .sbc, .and, .xor, .or, .cp] ∧
  [rot 0, rot 1, rot 2, rot 3, rot 4, rot 5, rot 6, rot 7] = [.rlc, .rrc, .rl, .rr, .sla, .sra, .swap, .srl] ∧
  (∀ n1 n2, decodePrimary 0x81 n1 n2 = .addA_C ∧ decodePrimary 0x0E n1 n2 = .ldC_n n1 ∧
    decodePrimary 0x3E n1 n2 = .ldA_n n1)

/-- For every whole instruction (all rows but PREFIX CB alone, which is log entry 8), with every operand at every value,
and whatever bytes follow: decoding its encoding answers exactly that instruction and leaves exactly the bytes that
followed. The encoder is written from the two opcode maps, the decoder from the field layout. (R85, R86, R96, R97,
R98, R100) -/
def Obligations.DecodeAfterEncodeGivesTheInstruction : Prop :=
  ∀ (i : Instr) (rest : List Byte), i.wf = true → decode (encode i ++ rest) = .ok (i, rest)

/-- Any three bytes decode. Whenever a list of bytes decodes, the instruction is whole, the list is its encoding
followed by the rest, and its encoding is one to three bytes: each word has one meaning. (R85, R87, R98, R100, R107) -/
def Obligations.EncodeAfterDecodeGivesTheBytes : Prop :=
  (∀ (b0 b1 b2 : Byte) (rest : List Byte), ∃ i r, decode (b0 :: b1 :: b2 :: rest) = .ok (i, r)) ∧
  (∀ (bytes rest : List Byte) (i : Instr), decode bytes = .ok (i, rest) →
    i.wf = true ∧ bytes = encode i ++ rest ∧ 1 ≤ (encode i).length ∧ (encode i).length ≤ 3)

/-- The bytes of the instruction that starts with a given byte are 3 for the seventeen P3 opcodes, 2 for the twenty-six
P2 opcodes and for 0xCB, and 1 for every other byte, the eleven undefined ones included; the bytes after the first
do not matter. (R87) -/
def Obligations.LengthIsFixedByTheFirstByte : Prop :=
  ∀ b0 b1 b2 : Byte, (encode (decodeBytes b0 b1 b2)).length =
    if b0 ∈ ([0x01, 0x11, 0x21, 0x31, 0x08, 0xC2, 0xC3, 0xCA, 0xD2, 0xDA, 0xC4, 0xCC, 0xCD, 0xD4, 0xDC, 0xEA,
        0xFA] : List Byte) then 3
    else if b0 ∈ ([0x06, 0x0E, 0x16, 0x1E, 0x26, 0x2E, 0x36, 0x3E, 0x10, 0x18, 0x20, 0x28, 0x30, 0x38, 0xC6, 0xCE,
        0xD6, 0xDE, 0xE6, 0xEE, 0xF6, 0xFE, 0xE0, 0xF0, 0xE8, 0xF8, 0xCB] : List Byte) then 2
    else 1

/-- When no run state is set and the three bytes at PC decode to i, the step is exec of i on the state with PC past the
bytes of i, the opcode byte in current_opcode, the extended byte in current_extended_opcode if the opcode is 0xCB,
and the instruction clock at 0. (R32, R34, R41, R42, R297, R298, R301) -/
def Obligations.StepRunsTheInstructionAtPC : Prop :=
  ∀ (s : State) (i : Instr) (rest : List Byte), s.halted = false → s.stopped = false → s.locked = false →
    decode [s.read8 s.pc, s.read8 (s.pc + 1), s.read8 (s.pc + 2)] = .ok (i, rest) →
    step s = exec i { s with
      pc := s.pc + BitVec.ofNat 16 (encode i).length
      currentOpcode := s.read8 s.pc
      currentExtendedOpcode := if s.read8 s.pc = 0xCB then s.read8 (s.pc + 1) else s.currentExtendedOpcode
      insM := 0 }

/-- While halted, stopped or locked is 1, a step fetches and dispatches nothing: the next state is the same state with
sys_m one larger, so the run state stays set, and the cost the step returns is 1. (R303) -/
def Obligations.IdleStepOnlyAddsOneMachineCycle : Prop :=
  ∀ s : State, (s.halted = true ∨ s.stopped = true ∨ s.locked = true) →
    step s = .next { s with sysM := s.sysM + 1 } ∧ stepCost s { s with sysM := s.sysM + 1 } = 1

/-- For every register: LD r,r' copies the register (01yyyzzz, 1 cycle), LD r,(HL) loads the byte at the old HL
(01yyy110, 2 cycles), LD r,n loads the immediate (00yyy110 n, 2 cycles). No other register, flag, byte of memory or
control state changes. (R150, R151, R153) -/
def Obligations.LoadsIntoARegister : Prop :=
  ∀ (dst r : Reg8) (n : Byte) (s : State),
    encode (.mkLdRegReg dst r) = [0x40 + 8 * regIndex dst + regIndex r] ∧
    encode (.mkLdRegAtHL dst) = [0x46 + 8 * regIndex dst] ∧
    encode (.mkLdRegImm dst n) = [0x06 + 8 * regIndex dst, n] ∧
    Completes (.mkLdRegReg dst r) s (fun t => t.reg dst = s.reg r ∧ UnchangedExcept { regs := [dst] } 1 s t) ∧
    Completes (.mkLdRegAtHL dst) s (fun t => t.reg dst = s.read8 s.hl ∧ UnchangedExcept { regs := [dst] } 2 s t) ∧
    Completes (.mkLdRegImm dst n) s (fun t => t.reg dst = n ∧ UnchangedExcept { regs := [dst] } 2 s t)

/-- LD (HL),r stores the register at the address HL (01110zzz, 2 cycles) and LD (HL),n stores the immediate there (0x36
n, 3 cycles). Every other byte of memory reads as before; no register, flag or control state changes. (R152, R154) -/
def Obligations.StoresAtHL : Prop :=
  ∀ (r : Reg8) (n : Byte) (s : State),
    encode (.mkLdAtHLReg r) = [0x70 + regIndex r] ∧
    encode (.ldAtHL_n n) = [0x36, n] ∧
    Completes (.mkLdAtHLReg r) s (fun t => t.read8 s.hl = s.reg r ∧ UnchangedExcept { bytes := [s.hl] } 2 s t) ∧
    Completes (.ldAtHL_n n) s (fun t => t.read8 s.hl = n ∧ UnchangedExcept { bytes := [s.hl] } 3 s t)

/-- A gets the byte at BC, at DE, at nn, at 0xFF00 + n and at 0xFF00 + C. No other register, flag, byte of memory or
control state changes; the costs are 2, 2, 4, 3 and 2. (R155, R156, R159, R161, R163) -/
def Obligations.AccumulatorLoads : Prop :=
  ∀ (nn : Word) (n : Byte) (s : State),
    encode .ldA_atBC = [0x0A] ∧ encode .ldA_atDE = [0x1A] ∧ encode (.ldA_atNN nn) = [0xFA, loByte nn, hiByte nn] ∧
    encode (.ldhA_atN n) = [0xF0, n] ∧ encode .ldA_atC = [0xF2] ∧
    Completes .ldA_atBC s (fun t => t.a = s.read8 s.bc ∧ UnchangedExcept { regs := [.a] } 2 s t) ∧
    Completes .ldA_atDE s (fun t => t.a = s.read8 s.de ∧ UnchangedExcept { regs := [.a] } 2 s t) ∧
    Completes (.ldA_atNN nn) s (fun t => t.a = s.read8 nn ∧ UnchangedExcept { regs := [.a] } 4 s t) ∧
    Completes (.ldhA_atN n) s (fun t =>
      t.a = s.read8 (BitVec.ofNat 16 (0xFF00 + n.toNat)) ∧ UnchangedExcept { regs := [.a] } 3 s t) ∧
    Completes .ldA_atC s (fun t =>
      t.a = s.read8 (BitVec.ofNat 16 (0xFF00 + s.c.toNat)) ∧ UnchangedExcept { regs := [.a] } 2 s t)

/-- A is stored at BC, at DE, at nn, at 0xFF00 + n and at 0xFF00 + C. Every other byte of memory reads as before; no
register, flag or control state changes; the costs are 2, 2, 4, 3 and 2. (R157, R158, R160, R162, R164) -/
def Obligations.AccumulatorStores : Prop :=
  ∀ (nn : Word) (n : Byte) (s : State),
    encode .ldAtBC_A = [0x02] ∧ encode .ldAtDE_A = [0x12] ∧ encode (.ldAtNN_A nn) = [0xEA, loByte nn, hiByte nn] ∧
    encode (.ldhAtN_A n) = [0xE0, n] ∧ encode .ldAtC_A = [0xE2] ∧
    Completes .ldAtBC_A s (fun t => t.read8 s.bc = s.a ∧ UnchangedExcept { bytes := [s.bc] } 2 s t) ∧
    Completes .ldAtDE_A s (fun t => t.read8 s.de = s.a ∧ UnchangedExcept { bytes := [s.de] } 2 s t) ∧
    Completes (.ldAtNN_A nn) s (fun t => t.read8 nn = s.a ∧ UnchangedExcept { bytes := [nn] } 4 s t) ∧
    Completes (.ldhAtN_A n) s (fun t =>
      t.read8 (BitVec.ofNat 16 (0xFF00 + n.toNat)) = s.a ∧
      UnchangedExcept { bytes := [BitVec.ofNat 16 (0xFF00 + n.toNat)] } 3 s t) ∧
    Completes .ldAtC_A s (fun t =>
      t.read8 (BitVec.ofNat 16 (0xFF00 + s.c.toNat)) = s.a ∧
      UnchangedExcept { bytes := [BitVec.ofNat 16 (0xFF00 + s.c.toNat)] } 2 s t)

/-- The access is at the HL before the instruction; then HL is one more or one less, modulo 2^16, and no flag is
written. The stores change one byte of memory and H, L; the loads change A, H, L and no memory. Each costs 2. (R165,
R166, R167, R168) -/
def Obligations.PostIncrementAndDecrementOfHL : Prop :=
  ∀ s : State,
    encode .ldAtHLinc_A = [0x22] ∧ encode .ldAtHLdec_A = [0x32] ∧ encode .ldA_atHLinc = [0x2A] ∧
    encode .ldA_atHLdec = [0x3A] ∧
    Completes .ldAtHLinc_A s (fun t => t.read8 s.hl = s.a ∧ t.hl = s.hl + 1 ∧
      UnchangedExcept { regs := [.h, .l], bytes := [s.hl] } 2 s t) ∧
    Completes .ldAtHLdec_A s (fun t => t.read8 s.hl = s.a ∧ t.hl = s.hl - 1 ∧
      UnchangedExcept { regs := [.h, .l], bytes := [s.hl] } 2 s t) ∧
    Completes .ldA_atHLinc s (fun t => t.a = s.read8 s.hl ∧ t.hl = s.hl + 1 ∧
      UnchangedExcept { regs := [.a, .h, .l] } 2 s t) ∧
    Completes .ldA_atHLdec s (fun t => t.a = s.read8 s.hl ∧ t.hl = s.hl - 1 ∧
      UnchangedExcept { regs := [.a, .h, .l] } 2 s t)

/-- LD rr,nn (00pp0001 lo hi) sets the pair, or SP, to nn; the first operand byte is the low half. Nothing else changes;
the cost is 3. (R169) -/
def Obligations.LoadsA16BitImmediate : Prop :=
  ∀ (p : Pair) (nn : Word) (s : State),
    encode (.mkLdPairImm p nn) = [0x01 + 16 * pairIndex p, loByte nn, hiByte nn] ∧
    Completes (.mkLdPairImm p nn) s (fun t => t.pair p = nn ∧
      UnchangedExcept { regs := pairHalves p, sp := p == .sp } 3 s t)

/-- LD (nn),SP stores SP[7:0] at nn and SP[15:8] at nn + 1 modulo 2^16 and changes no other byte, register or flag (5
cycles). LD SP,HL sets SP to HL and changes nothing else (2 cycles). (R170, R171) -/
def Obligations.StoresAndLoadsOfSP : Prop :=
  ∀ (nn : Word) (s : State),
    encode (.ldAtNN_SP nn) = [0x08, loByte nn, hiByte nn] ∧ encode .ldSP_HL = [0xF9] ∧
    Completes (.ldAtNN_SP nn) s (fun t => t.read8 nn = loByte s.sp ∧ t.read8 (nn + 1) = hiByte s.sp ∧
      UnchangedExcept { bytes := [nn, nn + 1] } 5 s t) ∧
    Completes .ldSP_HL s (fun t => t.sp = s.hl ∧ UnchangedExcept { sp := true } 2 s t)

/-- The result is SP plus the signed displacement modulo 2^16, written to HL (SP unchanged, 3 cycles) or to SP (4
cycles). Z and N are 0 even for a zero result; H and C are the carries out of bits 3 and 7 of the unsigned sum of
the low byte of SP and e, whatever the sign of e. (R124, R172, R223) -/
def Obligations.SPPlusSignedDisplacement : Prop :=
  ∀ (e : Byte) (s : State),
    encode (.ldHL_SPe e) = [0xF8, e] ∧ encode (.addSP_e e) = [0xE8, e] ∧
    Completes (.ldHL_SPe e) s (fun t =>
      t.hl = BitVec.ofInt 16 ((s.sp.toNat : Int) + e.toInt) ∧
      t.flags = ⟨false, false, decide (s.sp.toNat % 16 + e.toNat % 16 > 0xF),
        decide (s.sp.toNat % 256 + e.toNat > 0xFF)⟩ ∧
      UnchangedExcept { regs := [.h, .l], flags := true } 3 s t) ∧
    Completes (.addSP_e e) s (fun t =>
      t.sp = BitVec.ofInt 16 ((s.sp.toNat : Int) + e.toInt) ∧
      t.flags = ⟨false, false, decide (s.sp.toNat % 16 + e.toNat % 16 > 0xF),
        decide (s.sp.toNat % 256 + e.toNat > 0xFF)⟩ ∧
      UnchangedExcept { sp := true, flags := true } 4 s t)

/-- PUSH BC, DE, HL or AF (11pp0101) lowers SP by 2 modulo 2^16 and stores the low byte at the new SP and the high byte
at the new SP + 1. For AF the low byte is F, whose bits 3:0 are 0. No register, flag or other byte changes; the cost
is 4. (R71, R173) -/
def Obligations.PushStoresAPairBelowSP : Prop :=
  ∀ (p : StackPair) (s : State),
    encode (.mkPush p) = [0xC5 + 16 * stackPairIndex p] ∧
    Completes (.mkPush p) s (fun t =>
      t.sp = s.sp - 2 ∧ t.read8 (s.sp - 2) = loByte (s.stackPair p) ∧ t.read8 (s.sp - 1) = hiByte (s.stackPair p) ∧
      UnchangedExcept { sp := true, bytes := [s.sp - 2, s.sp - 1] } 4 s t) ∧
    loByte (s.stackPair .af) = s.f ∧ s.f &&& 0x0F = 0

/-- POP BC, DE, HL or AF (11pp0001) loads the pair with the word at SP, low byte at SP, and raises SP by 2 modulo 2^16;
memory is unchanged and the cost is 3. POP AF sets A to the high byte and the flags Z, N, H, C to bits 7, 6, 5, 4 of
the low byte, so F is that byte with bits 3:0 zero; the other POPs change no flag. (R72, R174, R175) -/
def Obligations.PopLoadsAPairFromSP : Prop :=
  ∀ (p : StackPair) (s : State),
    encode (.mkPop p) = [0xC1 + 16 * stackPairIndex p] ∧
    Completes (.mkPop p) s (fun t =>
      t.sp = s.sp + 2 ∧
      (p ≠ .af → t.stackPair p = joinBytes (s.read8 (s.sp + 1)) (s.read8 s.sp)) ∧
      (p = .af → t.a = s.read8 (s.sp + 1) ∧ t.f = s.read8 s.sp &&& 0xF0 ∧
        t.flags = ⟨(s.read8 s.sp).getLsbD 7, (s.read8 s.sp).getLsbD 6, (s.read8 s.sp).getLsbD 5,
          (s.read8 s.sp).getLsbD 4⟩) ∧
      UnchangedExcept { regs := stackPairHalves p, flags := p == .af, sp := true } 3 s t)

/-- A is the sum modulo 256; Z is set iff it is 0; N is 0; H is the carry out of bit 3 and C the carry out of bit 7. The
operand is a register, the byte at HL or the immediate; A and the flags change, nothing else; the cost is 1, 2 and
2. (R111, R180, R181, R182) -/
def Obligations.AddSetsResultAndFlags : Prop :=
  AluEncoded .add ∧
  ∀ (src : Src8) (s : State), Completes (.mkAlu .add src) s (fun t =>
    t.a.toNat = (s.a.toNat + (s.src src).toNat) % 256 ∧
    t.flags = ⟨decide (t.a = 0), false, decide (s.a.toNat % 16 + (s.src src).toNat % 16 > 0xF),
      decide (s.a.toNat + (s.src src).toNat > 0xFF)⟩ ∧
    UnchangedExcept { regs := [.a], flags := true } (aluCycles src) s t)

/-- A is the sum with the incoming carry modulo 256; Z is set iff it is 0; N is 0; H and C are the carries out of bits 3
and 7 of the sum with carry. The operand is a register, the byte at HL or the immediate; A and the flags change,
nothing else; the cost is 1, 2 and 2. (R112, R183, R184, R185) -/
def Obligations.AdcSetsResultAndFlags : Prop :=
  AluEncoded .adc ∧
  ∀ (src : Src8) (s : State), Completes (.mkAlu .adc src) s (fun t =>
    t.a.toNat = (s.a.toNat + (s.src src).toNat + s.flags.c.toNat) % 256 ∧
    t.flags = ⟨decide (t.a = 0), false, decide (s.a.toNat % 16 + (s.src src).toNat % 16 + s.flags.c.toNat > 0xF),
      decide (s.a.toNat + (s.src src).toNat + s.flags.c.toNat > 0xFF)⟩ ∧
    UnchangedExcept { regs := [.a], flags := true } (aluCycles src) s t)

/-- A is the difference modulo 256; Z is set iff it is 0; N is 1; H is the borrow from bit 4 and C the borrow. The
operand is a register, the byte at HL or the immediate; A and the flags change, nothing else; the cost is 1, 2 and
2. (R113, R186, R187, R188) -/
def Obligations.SubSetsResultAndFlags : Prop :=
  AluEncoded .sub ∧
  ∀ (src : Src8) (s : State), Completes (.mkAlu .sub src) s (fun t =>
    t.a.toNat = (s.a.toNat + 256 - (s.src src).toNat) % 256 ∧
    t.flags = ⟨decide (t.a = 0), true, decide (s.a.toNat % 16 < (s.src src).toNat % 16),
      decide (s.a.toNat < (s.src src).toNat)⟩ ∧
    UnchangedExcept { regs := [.a], flags := true } (aluCycles src) s t)

/-- A is the difference less the incoming carry modulo 256; Z is set iff it is 0; N is 1; H and C are the borrows of
both stages together. The operand is a register, the byte at HL or the immediate; A and the flags change, nothing
else; the cost is 1, 2 and 2. (R114, R189, R190, R191) -/
def Obligations.SbcSetsResultAndFlags : Prop :=
  AluEncoded .sbc ∧
  ∀ (src : Src8) (s : State), Completes (.mkAlu .sbc src) s (fun t =>
    t.a.toNat = (s.a.toNat + 512 - (s.src src).toNat - s.flags.c.toNat) % 256 ∧
    t.flags = ⟨decide (t.a = 0), true, decide (s.a.toNat % 16 < (s.src src).toNat % 16 + s.flags.c.toNat),
      decide (s.a.toNat < (s.src src).toNat + s.flags.c.toNat)⟩ ∧
    UnchangedExcept { regs := [.a], flags := true } (aluCycles src) s t)

/-- A is the bitwise and, exclusive or, or; Z is set iff it is 0; N and C are 0; H is 1 after AND and 0 after XOR and
OR. The operand is a register, the byte at HL or the immediate; A and the flags change, nothing else; the cost is 1,
2 and 2. (R115, R116, R117, R192, R193, R194, R195, R196, R197, R198, R199, R200) -/
def Obligations.LogicSetsResultAndFlags : Prop :=
  AluEncoded .and ∧ AluEncoded .xor ∧ AluEncoded .or ∧
  ∀ (src : Src8) (s : State),
    Completes (.mkAlu .and src) s (fun t => t.a = s.a &&& s.src src ∧ t.flags = ⟨decide (t.a = 0), false, true, false⟩ ∧
      UnchangedExcept { regs := [.a], flags := true } (aluCycles src) s t) ∧
    Completes (.mkAlu .xor src) s (fun t => t.a = s.a ^^^ s.src src ∧ t.flags = ⟨decide (t.a = 0), false, false, false⟩ ∧
      UnchangedExcept { regs := [.a], flags := true } (aluCycles src) s t) ∧
    Completes (.mkAlu .or src) s (fun t => t.a = s.a ||| s.src src ∧ t.flags = ⟨decide (t.a = 0), false, false, false⟩ ∧
      UnchangedExcept { regs := [.a], flags := true } (aluCycles src) s t)

/-- CP sets the flags as SUB does and discards the result: A, like every other register, is unchanged. The operand is a
register, the byte at HL or the immediate; only the flags change; the cost is 1, 2 and 2. (R118, R201, R202, R203) -/
def Obligations.CompareSetsFlagsOnly : Prop :=
  AluEncoded .cp ∧
  ∀ (src : Src8) (s : State), Completes (.mkAlu .cp src) s (fun t =>
    t.flags = ⟨decide (s.a = s.src src), true, decide (s.a.toNat % 16 < (s.src src).toNat % 16),
      decide (s.a.toNat < (s.src src).toNat)⟩ ∧
    UnchangedExcept { flags := true } (aluCycles src) s t)

/-- The operand, a register or the byte at HL, is one more or one less modulo 256. Z is set iff the result is 0; N is 0
after INC and 1 after DEC; H is set iff the low nibble was 0xF (INC) or 0 (DEC); C is kept. Only the operand and the
flags change; the cost is 1 for a register and 3 for (HL). (R119, R120, R204, R205, R206, R207) -/
def Obligations.IncAndDecKeepCarry : Prop :=
  ∀ (o : Opnd8) (s : State),
    encode (.mkInc8 o) = [0x04 + 8 * opndIndex o] ∧ encode (.mkDec8 o) = [0x05 + 8 * opndIndex o] ∧
    Completes (.mkInc8 o) s (fun t =>
      t.opnd o = s.opnd o + 1 ∧
      t.flags = ⟨decide (t.opnd o = 0), false, decide (s.opnd o &&& 0x0F = 0x0F), s.flags.c⟩ ∧
      UnchangedExcept { regs := opndRegs o, flags := true, bytes := opndBytes o s } (if o = .atHL then 3 else 1) s t) ∧
    Completes (.mkDec8 o) s (fun t =>
      t.opnd o = s.opnd o - 1 ∧
      t.flags = ⟨decide (t.opnd o = 0), true, decide (s.opnd o &&& 0x0F = 0x00), s.flags.c⟩ ∧
      UnchangedExcept { regs := opndRegs o, flags := true, bytes := opndBytes o s } (if o = .atHL then 3 else 1) s t)

/-- After an addition (N = 0) DAA adds 0x60 if C or A > 0x99 and then sets C, and adds 0x06 if H or the low nibble > 9.
After a subtraction (N = 1) it subtracts 0x60 if C and 0x06 if H, and keeps C. The result is modulo 256; Z is set
iff it is 0; H is 0; N is kept. Only A and the flags change; the cost is 1. (R137, R208) -/
def Obligations.DaaAdjustsTheAccumulator : Prop :=
  encode .daa = [0x27] ∧
  ∀ s : State, Completes .daa s (fun t =>
    (s.flags.n = false →
      t.a = BitVec.ofNat 8 (s.a.toNat + (if s.flags.c = true ∨ s.a.toNat > 0x99 then 0x60 else 0) +
        (if s.flags.h = true ∨ s.a.toNat % 16 > 0x09 then 0x06 else 0)) ∧
      t.flags.c = decide (s.flags.c = true ∨ s.a.toNat > 0x99)) ∧
    (s.flags.n = true →
      t.a = BitVec.ofInt 8 ((s.a.toNat : Int) - (if s.flags.c = true then 0x60 else 0) -
        (if s.flags.h = true then 0x06 else 0)) ∧
      t.flags.c = s.flags.c) ∧
    t.flags.z = decide (t.a = 0) ∧ t.flags.n = s.flags.n ∧ t.flags.h = false ∧
    UnchangedExcept { regs := [.a], flags := true } 1 s t)

/-- CPL: A is its complement, N and H are 1, Z and C kept. SCF: C is 1, N and H are 0, Z kept. CCF: C is complemented, N
and H are 0, Z kept. Nothing else changes; each costs 1. (R138, R139, R140, R209, R210, R211) -/
def Obligations.CplScfCcf : Prop :=
  encode .cpl = [0x2F] ∧ encode .scf = [0x37] ∧ encode .ccf = [0x3F] ∧
  ∀ s : State,
    Completes .cpl s (fun t => t.a = ~~~s.a ∧ t.flags = ⟨s.flags.z, true, true, s.flags.c⟩ ∧
      UnchangedExcept { regs := [.a], flags := true } 1 s t) ∧
    Completes .scf s (fun t => t.flags = ⟨s.flags.z, false, false, true⟩ ∧ UnchangedExcept { flags := true } 1 s t) ∧
    Completes .ccf s (fun t => t.flags = ⟨s.flags.z, false, false, !s.flags.c⟩ ∧
      UnchangedExcept { flags := true } 1 s t)

/-- RLCA and RRCA rotate A by one bit; RLA and RRA rotate it through C. C is the bit rotated out; Z is 0 whatever the
result, N and H are 0. Only A and the flags change; each costs 1. (R130, R212, R213, R214, R215) -/
def Obligations.AccumulatorRotatesForceZToZero : Prop :=
  encode .rlca = [0x07] ∧ encode .rrca = [0x0F] ∧ encode .rla = [0x17] ∧ encode .rra = [0x1F] ∧
  ∀ s : State,
    Completes .rlca s (fun t => t.a = s.a.rotateLeft 1 ∧ t.flags = ⟨false, false, false, s.a.msb⟩ ∧
      UnchangedExcept { regs := [.a], flags := true } 1 s t) ∧
    Completes .rrca s (fun t => t.a = s.a.rotateRight 1 ∧ t.flags = ⟨false, false, false, s.a.getLsbD 0⟩ ∧
      UnchangedExcept { regs := [.a], flags := true } 1 s t) ∧
    Completes .rla s (fun t => t.a = BitVec.ofNat 8 (2 * s.a.toNat + s.flags.c.toNat) ∧
      t.flags = ⟨false, false, false, s.a.msb⟩ ∧ UnchangedExcept { regs := [.a], flags := true } 1 s t) ∧
    Completes .rra s (fun t => t.a = BitVec.ofNat 8 (s.a.toNat / 2 + 128 * s.flags.c.toNat) ∧
      t.flags = ⟨false, false, false, s.a.getLsbD 0⟩ ∧ UnchangedExcept { regs := [.a], flags := true } 1 s t)

/-- HL is the sum of HL and BC, DE, HL or SP modulo 2^16; N is 0; H is the carry out of bit 11 and C the carry out of
bit 15; Z keeps its value even for a zero result. Only H, L and the flags change; the cost is 2. (R123, R220) -/
def Obligations.AddToHLKeepsZ : Prop :=
  ∀ (p : Pair) (s : State),
    encode (.mkAddHL p) = [0x09 + 16 * pairIndex p] ∧
    Completes (.mkAddHL p) s (fun t =>
      t.hl.toNat = (s.hl.toNat + (s.pair p).toNat) % 65536 ∧
      t.flags = ⟨s.flags.z, false, decide (s.hl.toNat % 4096 + (s.pair p).toNat % 4096 > 0xFFF),
        decide (s.hl.toNat + (s.pair p).toNat > 0xFFFF)⟩ ∧
      UnchangedExcept { regs := [.h, .l], flags := true } 2 s t)

/-- The pair, or SP, is one more or one less modulo 2^16. No flag and nothing else changes; the cost is 2. (R121, R122,
R221, R222) -/
def Obligations.IncAndDecOfAPair : Prop :=
  ∀ (p : Pair) (s : State),
    encode (.mkIncPair p) = [0x03 + 16 * pairIndex p] ∧ encode (.mkDecPair p) = [0x0B + 16 * pairIndex p] ∧
    Completes (.mkIncPair p) s (fun t => (t.pair p).toNat = ((s.pair p).toNat + 1) % 65536 ∧
      UnchangedExcept { regs := pairHalves p, sp := p == .sp } 2 s t) ∧
    Completes (.mkDecPair p) s (fun t => (t.pair p).toNat = ((s.pair p).toNat + 65535) % 65536 ∧
      UnchangedExcept { regs := pairHalves p, sp := p == .sp } 2 s t)

/-- JP nn and JP HL set PC to nn and to HL (4 and 1 cycles). JP cc,nn sets PC to nn when the condition holds (4 cycles)
and else leaves it past the operand (3 cycles). NZ, Z, NC, C test F.Z and F.C. No flag, register or byte of memory
changes. (R231, R232, R233) -/
def Obligations.AbsoluteJumps : Prop :=
  (∀ f : Flags, condHolds .nz f = !f.z ∧ condHolds .z f = f.z ∧ condHolds .nc f = !f.c ∧ condHolds .c f = f.c) ∧
  ∀ (cond : Cond) (nn : Word) (s : State),
    encode (.jp nn) = [0xC3, loByte nn, hiByte nn] ∧ encode .jpHL = [0xE9] ∧
    encode (.mkJpCond cond nn) = [0xC2 + 8 * condIndex cond, loByte nn, hiByte nn] ∧
    Completes (.jp nn) s (fun t => t.pc = nn ∧ UnchangedExcept { pc := true } 4 s t) ∧
    Completes .jpHL s (fun t => t.pc = s.hl ∧ UnchangedExcept { pc := true } 1 s t) ∧
    Completes (.mkJpCond cond nn) s (fun t =>
      if condHolds cond s.flags = true then t.pc = nn ∧ UnchangedExcept { pc := true } 4 s t
      else t.pc = s.pc ∧ UnchangedExcept {} 3 s t)

/-- JR e sets PC to the address after the instruction plus the signed displacement, modulo 2^16 (3 cycles); JR cc,e does
so when the condition holds (3 cycles) and else leaves PC past the operand (2 cycles). No flag, register or byte of
memory changes. (R234, R235) -/
def Obligations.RelativeJumps : Prop :=
  ∀ (cond : Cond) (e : Byte) (s : State),
    encode (.jr e) = [0x18, e] ∧ encode (.mkJrCond cond e) = [0x20 + 8 * condIndex cond, e] ∧
    Completes (.jr e) s (fun t => t.pc = BitVec.ofInt 16 ((s.pc.toNat : Int) + e.toInt) ∧
      UnchangedExcept { pc := true } 3 s t) ∧
    Completes (.mkJrCond cond e) s (fun t =>
      if condHolds cond s.flags = true then
        t.pc = BitVec.ofInt 16 ((s.pc.toNat : Int) + e.toInt) ∧ UnchangedExcept { pc := true } 3 s t
      else t.pc = s.pc ∧ UnchangedExcept {} 2 s t)

/-- CALL nn pushes the address after it, low byte at SP - 2 and high byte at SP - 1, lowers SP by 2 and sets PC to nn (6
cycles). CALL cc,nn does the same when the condition holds (6 cycles) and else changes nothing, SP and memory
included (3 cycles). No flag or 8-bit register changes. (R236, R237) -/
def Obligations.CallsPushTheReturnAddress : Prop :=
  ∀ (cond : Cond) (nn : Word) (s : State),
    encode (.call nn) = [0xCD, loByte nn, hiByte nn] ∧
    encode (.mkCallCond cond nn) = [0xC4 + 8 * condIndex cond, loByte nn, hiByte nn] ∧
    Completes (.call nn) s (CallsTo nn 6 s) ∧
    Completes (.mkCallCond cond nn) s (fun t =>
      if condHolds cond s.flags = true then CallsTo nn 6 s t else UnchangedExcept {} 3 s t)

/-- RET sets PC to the word at SP and raises SP by 2 (4 cycles). RET cc does so when the condition holds (5 cycles) and
else changes nothing (2 cycles). RETI is RET that also sets IME to 1, at once (4 cycles). No flag, 8-bit register or
byte of memory changes. (R238, R239, R240) -/
def Obligations.ReturnsPopPC : Prop :=
  ∀ (cond : Cond) (s : State),
    encode .ret = [0xC9] ∧ encode (.mkRetCond cond) = [0xC0 + 8 * condIndex cond] ∧ encode .reti = [0xD9] ∧
    Completes .ret s (Returns 4 s) ∧
    Completes (.mkRetCond cond) s (fun t =>
      if condHolds cond s.flags = true then Returns 5 s t else UnchangedExcept {} 2 s t) ∧
    Completes .reti s (fun t =>
      t.pc = joinBytes (s.read8 (s.sp + 1)) (s.read8 s.sp) ∧ t.sp = s.sp + 2 ∧ t.ime = true ∧
      UnchangedExcept { pc := true, sp := true, ime := true } 4 s t)

/-- RST (11yyy111) pushes the address after it and sets PC to one of 0x00, 0x08, 0x10, 0x18, 0x20, 0x28, 0x30, 0x38,
which is 8 * y; SP falls by 2; no flag, 8-bit register or other byte changes; the cost is 4. (R241) -/
def Obligations.RestartCallsItsVector : Prop :=
  ∀ (y : Fin 8) (s : State),
    encode (.mkRst y) = [BitVec.ofNat 8 (0xC7 + 8 * y.val)] ∧
    Completes (.mkRst y) s (CallsTo (BitVec.ofNat 16 (8 * y.val)) 4 s)

/-- The register gets the rotated, shifted or nibble-swapped value; C is the bit moved out (0 for SWAP); RL and RR take
the old C in; Z is set iff the result is 0, for A too; N and H are 0. The encoding is 0xCB 00ooozzz. Only the
register and the flags change; the cost is 2. (R251, R253, R255, R257, R259, R261, R263, R265) -/
def Obligations.RotatesAndShiftsOfARegister : Prop :=
  ∀ (op : RotOp) (r : Reg8) (s : State),
    encode (.mkRot op (.reg r)) = [0xCB, 8 * rotIndex op + regIndex r] ∧
    Completes (.mkRot op (.reg r)) s (fun t =>
      t.reg r = (rotAccount op (s.reg r) s.flags.c).1 ∧
      t.flags = ⟨decide (t.reg r = 0), false, false, (rotAccount op (s.reg r) s.flags.c).2⟩ ∧
      UnchangedExcept { regs := [r], flags := true } 2 s t)

/-- The same operations on the byte at HL: it is read and its result written back there; the flags are as for a
register. The encoding is 0xCB 00ooo110. Only that byte and the flags change, no register; the cost is 4. (R252,
R254, R256, R258, R260, R262, R264, R266, R274) -/
def Obligations.RotatesAndShiftsAtHL : Prop :=
  ∀ (op : RotOp) (s : State),
    encode (.mkRot op .atHL) = [0xCB, 8 * rotIndex op + 6] ∧
    Completes (.mkRot op .atHL) s (fun t =>
      t.read8 s.hl = (rotAccount op (s.read8 s.hl) s.flags.c).1 ∧
      t.flags = ⟨decide (t.read8 s.hl = 0), false, false, (rotAccount op (s.read8 s.hl) s.flags.c).2⟩ ∧
      UnchangedExcept { flags := true, bytes := [s.hl] } 4 s t) ∧
    (∀ r, Completes (.mkRot op (.reg r)) s (fun t =>
      t.reg r = (rotAccount op (s.reg r) s.flags.c).1 ∧
      t.flags = ⟨decide (t.reg r = 0), false, false, (rotAccount op (s.reg r) s.flags.c).2⟩ ∧
      UnchangedExcept { regs := [r], flags := true } 2 s t))

/-- Z is set iff bit y of the register, or of the byte at HL, is 0; N is 0, H is 1, C is kept. No register and no byte
of memory changes. The encoding is 0xCB 01yyyzzz; the cost is 2 for a register and 3 for (HL). (R134, R267, R268) -/
def Obligations.BitTestsWriteOnlyFlags : Prop :=
  ∀ (y : Fin 8) (o : Opnd8) (s : State),
    encode (.mkBit y o) = [0xCB, 0x40 + 8 * BitVec.ofNat 8 y.val + opndIndex o] ∧
    Completes (.mkBit y o) s (fun t =>
      t.flags = ⟨!(s.opnd o).getLsbD y.val, false, true, s.flags.c⟩ ∧
      UnchangedExcept { flags := true } (if o = .atHL then 3 else 2) s t)

/-- After RES y bit y of the operand is 0, after SET y it is 1; every other bit of the operand is unchanged, and so is
every flag, other register and other byte. The encodings are 0xCB 10yyyzzz and 0xCB 11yyyzzz; the cost is 2 for a
register and 4 for (HL). (R135, R136, R269, R270, R271, R272) -/
def Obligations.ResAndSetChangeOneBit : Prop :=
  ∀ (y : Fin 8) (o : Opnd8) (s : State),
    encode (.mkRes y o) = [0xCB, 0x80 + 8 * BitVec.ofNat 8 y.val + opndIndex o] ∧
    encode (.mkSet y o) = [0xCB, 0xC0 + 8 * BitVec.ofNat 8 y.val + opndIndex o] ∧
    Completes (.mkRes y o) s (fun t =>
      (∀ k : Fin 8, (t.opnd o).getLsbD k.val = if k = y then false else (s.opnd o).getLsbD k.val) ∧
      UnchangedExcept { regs := opndRegs o, bytes := opndBytes o s } (if o = .atHL then 4 else 2) s t) ∧
    Completes (.mkSet y o) s (fun t =>
      (∀ k : Fin 8, (t.opnd o).getLsbD k.val = if k = y then true else (s.opnd o).getLsbD k.val) ∧
      UnchangedExcept { regs := opndRegs o, bytes := opndBytes o s } (if o = .atHL then 4 else 2) s t)

/-- The first clause is the model's choice and not the encoding R285 gives (log entry 8, DESIGN CHOICE): the table's
primary row 0xCB (R106) is a constructor of its own, with its one selecting byte as its encoding and no whole
instruction by itself. That row completes: it fetches the byte at PC, moves PC past it, records it in
current_extended_opcode, and is then exactly the extended instruction the byte decodes to, with that instruction's
flags, accesses and cost, T1 of the byte. A step whose opcode byte is 0xCB is the run of that row: the two bytes are
one step. (R285, R99, R106, R302, R307) -/
def Obligations.PrefixRunsTheExtendedRow : Prop :=
  encode .prefixCB = [0xCB] ∧
  (∀ s : State,
    exec .prefixCB s = exec (decodeExtended (s.read8 s.pc))
      { s with pc := s.pc + 1, currentExtendedOpcode := s.read8 s.pc } ∧
    Completes .prefixCB s (fun t => t.insM = s.insM + tableCell timingT1 (s.read8 s.pc) 0 ∧
      t.sysM = s.sysM + tableCell timingT1 (s.read8 s.pc) 0 ∧ t.pc = s.pc + 1)) ∧
  (∀ s : State, s.idle = false → s.read8 s.pc = 0xCB →
    step s = exec .prefixCB { s with pc := s.pc + 1, currentOpcode := 0xCB, insM := 0 })

/-- NOP changes nothing; HALT sets halted; STOP, whatever its operand byte, sets stopped; DI clears and EI sets IME, at
once. No register, flag, PC, SP or byte of memory changes beyond that; each costs 1. After HALT and STOP every later
step is idle. PC is past the instruction (1 byte, 2 for STOP) before it runs. (R280, R281, R282, R283, R284) -/
def Obligations.ControlInstructions : Prop :=
  ∀ (n : Byte) (s : State),
    encode .nop = [0x00] ∧ encode .halt = [0x76] ∧ encode (.stop n) = [0x10, n] ∧ encode .di = [0xF3] ∧
    encode .ei = [0xFB] ∧
    Completes .nop s (UnchangedExcept {} 1 s) ∧
    Completes .halt s (fun t => t.halted = true ∧ UnchangedExcept { halted := true } 1 s t ∧ StaysIdle t) ∧
    Completes (.stop n) s (fun t => t.stopped = true ∧ UnchangedExcept { stopped := true } 1 s t ∧ StaysIdle t) ∧
    Completes .di s (fun t => t.ime = false ∧ UnchangedExcept { ime := true } 1 s t) ∧
    Completes .ei s (fun t => t.ime = true ∧ UnchangedExcept { ime := true } 1 s t)

/-- Each of the eleven undefined primary opcodes is one byte long, sets locked and changes nothing else; the cost is 1.
Every later step is idle. (R286) -/
def Obligations.UndefinedOpcodesLockTheCore : Prop :=
  Instr.undefinedOpcodes.map encode =
    [[0xD3], [0xDB], [0xDD], [0xE3], [0xE4], [0xEB], [0xEC], [0xED], [0xF4], [0xFC], [0xFD]] ∧
  ∀ i ∈ Instr.undefinedOpcodes, ∀ s : State,
    Completes i s (fun t => t.locked = true ∧ UnchangedExcept { locked := true } 1 s t ∧ StaysIdle t)

/-- For every instruction and every state exec answers a next state, and so does every step: no fault and no refusal is
ever reached, "there is no invalid opcode error path". (R107, R298, R325) -/
def Obligations.NothingEverStops : Prop :=
  (∀ (i : Instr) (s : State), ∃ t, exec i s = .next t) ∧ (∀ s : State, ∃ t, step s = .next t)

/-- After a step that is not idle, the instruction clock is the cost and the system clock has grown by it, where the
cost is the T1 entry of the extended byte for 0xCB, the taken cost for a conditional opcode whose condition held in
the state before the step, and else the T0 entry of the opcode. It is between 1 and 6. (R300, R301, R302, R306,
R307, R309, R352) -/
def Obligations.StepChargesTheTimingTables : Prop :=
  ∀ s t : State, s.idle = false → step s = .next t →
    t.insM = s.tableCost ∧ t.sysM = s.sysM + s.tableCost ∧ 1 ≤ s.tableCost ∧ s.tableCost ≤ 6

/-- From every state whose memory is in canonical form and which has at most one of halted, stopped and locked set, a
step gives a state with both properties; so does an instruction of any row, run where no run state is set. The
canonical form is the model's own form of the store of R67; that the run states exclude each other is R329. (R67,
R329, R303) -/
def Obligations.StepKeepsTheInvariant : Prop :=
  (∀ s t : State, Inv s → step s = .next t → Inv t) ∧
  (∀ (i : Instr) (s t : State), Inv s → s.idle = false → exec i s = .next t → Inv t)

/-- The memory of the reset state is in canonical form and no run state is set; a reset in the middle of a run gives
such a state too when memory was in canonical form. (R67, R329, R345) -/
def Obligations.ResetMeetsTheInvariant : Prop :=
  Inv State.reset ∧ State.reset.idle = false ∧
  (∀ s : State, Memory.wf s.mem = true → Inv s.doReset ∧ s.doReset.idle = false)

/-- Over all instructions: IME afterwards is 0 after DI, 1 after EI and RETI and else as before; halted is set by HALT
alone, stopped by STOP alone, locked by the eleven undefined opcodes alone; no instruction clears any of the three.
(R37, R38, R39, R40, R240, R281, R282, R283, R284, R286) -/
def Obligations.OnlyTheirInstructionsWriteTheRunState : Prop :=
  ∀ (i : Instr) (s t : State), exec i s = .next t →
    t.ime = imeAfter i s.ime ∧
    t.halted = (s.halted || decide (i = .halt)) ∧
    t.stopped = (s.stopped || isStop i) ∧
    t.locked = (s.locked || decide (i ∈ Instr.undefinedOpcodes))

/-- Over all instructions: every address outside the bytes the instruction stores to, computed from the state its rule
runs on, reads as before. For the instructions that store nothing (register forms, compares, BIT, jumps, returns,
POP, control) that is every address. (R61, R67, R74, R273) -/
def Obligations.MemoryChangesOnlyWhereAnInstructionStores : Prop :=
  ∀ (i : Instr) (s t : State) (x : Word), exec i s = .next t → x ∉ storesOf i s → t.read8 x = s.read8 x

/-- After a dispatched step each of Z, N, H, C agrees with its letter in the opcode table's row: a dash keeps the flag,
0 and 1 give it that value. (R17, R27, R28, R29, R30, R106, R110) -/
def Obligations.FlagsFollowTheOpcodeTableColumn : Prop :=
  ∀ s t : State, s.idle = false → step s = .next t → s.tableFlags.Allows s.flags t.flags

/-- A dispatched step leaves the opcode byte in current_opcode, and in current_extended_opcode the second byte if the
opcode is 0xCB and the old value otherwise; an idle step leaves both; both are 0 after reset. (R41, R42) -/
def Obligations.OpcodeRegistersHoldTheLastFetch : Prop :=
  (∀ s t : State, step s = .next t →
    (s.idle = true → t.currentOpcode = s.currentOpcode ∧ t.currentExtendedOpcode = s.currentExtendedOpcode) ∧
    (s.idle = false → t.currentOpcode = s.read8 s.pc ∧
      t.currentExtendedOpcode = if s.read8 s.pc = 0xCB then s.read8 (s.pc + 1) else s.currentExtendedOpcode)) ∧
  State.reset.currentOpcode = 0 ∧ State.reset.currentExtendedOpcode = 0

/-- Two states that differ only in current_opcode, current_extended_opcode and the two clocks step to states that again
differ only in those, and the two steps cost the same. (R31, R46, R352) -/
def Obligations.BookkeepingNeverInfluencesResults : Prop :=
  ∀ s u s1 u1 : State, SameButBookkeeping s u → step s = .next s1 → step u = .next u1 →
    SameButBookkeeping s1 u1 ∧ stepCost s s1 = stepCost u u1

/-- From any state reset gives A = 0x01, Z = 1, N = 0, H = 1, C = 1 (F = 0xB0), BC = 0x0013, DE = 0x00D8, HL = 0x014D,
SP = 0xFFFE, PC = 0x0100, IME, halted, stopped, locked 0, both opcode registers 0, both clocks 0 in machine cycles
and in clock periods, and memory unchanged. State.reset has the same registers. (R345) -/
def Obligations.ResetValues : Prop :=
  ∀ s : State, (∃ m, State.reset = { s.doReset with mem := m }) ∧
    s.doReset.a = 0x01 ∧ s.doReset.flags = ⟨true, false, true, true⟩ ∧ s.doReset.f = 0xB0 ∧
    s.doReset.bc = 0x0013 ∧ s.doReset.de = 0x00D8 ∧ s.doReset.hl = 0x014D ∧
    s.doReset.sp = 0xFFFE ∧ s.doReset.pc = 0x0100 ∧
    s.doReset.ime = false ∧ s.doReset.halted = false ∧ s.doReset.stopped = false ∧ s.doReset.locked = false ∧
    s.doReset.currentOpcode = 0 ∧ s.doReset.currentExtendedOpcode = 0 ∧
    s.doReset.sysM = 0 ∧ s.doReset.insM = 0 ∧ s.doReset.sysT = 0 ∧ s.doReset.insT = 0 ∧
    s.doReset.mem = s.mem

/-- After a byte write, the written address reads the value and every other address reads as before, and only memory
changes. A word read is the bytes at addr (low) and addr + 1 modulo 2^16 (high); a word write is the low byte at
addr, then the high byte at addr + 1, so the word reads back and its bytes are where R70 says. With nothing written
a byte is MEM0 of its address. (R64, R65, R66, R67, R70) -/
def Obligations.MemoryReadsTheLastWrite : Prop :=
  (∀ (s : State) (x y : Word) (v : Byte),
    (s.write8 x v).read8 y = (if y = x then v else s.read8 y) ∧
    s.write8 x v = { s with mem := (s.write8 x v).mem }) ∧
  (∀ (s : State) (x v : Word),
    s.read16 x = joinBytes (s.read8 (x + 1)) (s.read8 x) ∧
    s.write16 x v = (s.write8 x (loByte v)).write8 (x + 1) (hiByte v) ∧
    (s.write16 x v).read16 x = v ∧ (s.write16 x v).read8 x = loByte v ∧ (s.write16 x v).read8 (x + 1) = hiByte v) ∧
  (0xFFFF : Word) + 1 = 0x0000 ∧
  (∀ x : Word, State.reset.read8 x = Config.mem0 x.toNat)

/-- Each pair is its high half followed by its low half; writing a pair sets the two halves and nothing else (of AF, the
flags from bits 7 to 4 of the low byte); writing one register changes no other, so writing L changes HL to H
followed by the byte. F is Z, N, H, C at bits 7, 6, 5, 4 and bits 3:0 are 0 in every state. (R21, R22, R25, R26) -/
def Obligations.PairsAreTheirHalves : Prop :=
  ∀ (s : State) (v : Word) (n : Byte) (r q : Reg8),
    s.af = joinBytes s.a s.f ∧ s.bc = joinBytes s.b s.c ∧ s.de = joinBytes s.d s.e ∧ s.hl = joinBytes s.h s.l ∧
    s.setBC v = { s with b := hiByte v, c := loByte v } ∧ s.setDE v = { s with d := hiByte v, e := loByte v } ∧
    s.setHL v = { s with h := hiByte v, l := loByte v } ∧
    s.setAF v = { s with a := hiByte v, flags := (s.setAF v).flags } ∧ (s.setAF v).f = loByte v &&& 0xF0 ∧
    (s.setBC v).bc = v ∧ (s.setDE v).de = v ∧ (s.setHL v).hl = v ∧
    (s.setReg r n).reg q = (if q = r then n else s.reg q) ∧ (s.setReg .l n).hl = joinBytes s.h n ∧
    s.f.toNat = 128 * s.flags.z.toNat + 64 * s.flags.n.toNat + 32 * s.flags.h.toNat + 16 * s.flags.c.toNat ∧
    s.f &&& 0x0F = 0

/-- PUSH rr then POP rr of the same pair restores every register, flag and SP. POP rr then PUSH qq leaves SP unchanged
with the pushed pair as the word at SP. CALL nn followed, from any PC, by RET returns to the address after the CALL
with SP as before. (R71, R72, R173, R174, R175, R236, R238) -/
def Obligations.StackRoundTrips : Prop :=
  (∀ (p : StackPair) (s t u : State), exec (.mkPush p) s = .next t → exec (.mkPop p) t = .next u →
    u = { s with mem := t.mem, insM := s.insM + 7, sysM := s.sysM + 7 }) ∧
  (∀ (p q : StackPair) (s t u : State), exec (.mkPop p) s = .next t → exec (.mkPush q) t = .next u →
    u.sp = s.sp ∧ u.read16 u.sp = t.stackPair q) ∧
  (∀ (nn pc : Word) (s t u : State), exec (.call nn) s = .next t → exec .ret { t with pc := pc } = .next u →
    u.pc = s.pc ∧ u.sp = s.sp)

/-- For every state and budget, run answers the state after some number k of steps and the cycles charged modulo 2^32;
the total is not less than the budget, every shorter run of steps had a total below the budget, the overshoot is at
most 5, the system clock grows by exactly the total, and run(0) executes nothing and returns 0. (R304) -/
def Obligations.RunIteratesStepsUpToTheBudget : Prop :=
  (∀ (budget : BitVec 32) (s : State), ∃ (k : Nat) (t : State),
    Host.Core.run Sys2Proof.core k s = .next t ∧
    run budget s = .next (t, BitVec.ofNat 32 (t.sysM - s.sysM)) ∧
    s.sysM + budget.toNat ≤ t.sysM ∧
    (budget.toNat ≠ 0 → t.sysM ≤ s.sysM + budget.toNat + 5) ∧
    (∀ j < k, ∃ u : State, Host.Core.run Sys2Proof.core j s = .next u ∧ s.sysM ≤ u.sysM ∧
      u.sysM < s.sysM + budget.toNat)) ∧
  (∀ s : State, run 0 s = .next (s, 0))

/-- run(1) performs exactly one step and returns its cost. While halted, stopped or locked, run(n) answers the same
state with sys_m larger by n, and returns n. (R303, R304, R336, R355) -/
def Obligations.SingleStepAndIdleRuns : Prop :=
  (∀ s t : State, step s = .next t → run 1 s = .next (t, BitVec.ofNat 32 (stepCost s t))) ∧
  (∀ (budget : BitVec 32) (s : State), s.idle = true →
    run budget s = .next ({ s with sysM := s.sysM + budget.toNat }, budget))

/-- SUB n then ADD A,n gives the first A back, whatever the flags. ADC with C = 0 answers the very state ADD answers.
RLC then RRC of a register restores it; RL then RR with the carry threaded restores the register and the carry.
(R111, R112, R113, R127, R129) -/
def Obligations.ArithmeticAndRotateRoundTrips : Prop :=
  (∀ (n : Byte) (s t u : State), exec (.sub_n n) s = .next t → exec (.addA_n n) t = .next u → u.a = s.a) ∧
  (∀ (src : Src8) (s : State), s.flags.c = false → exec (.mkAlu .adc src) s = exec (.mkAlu .add src) s) ∧
  (∀ (r : Reg8) (s t u : State), exec (.mkRot .rlc (.reg r)) s = .next t → exec (.mkRot .rrc (.reg r)) t = .next u →
    u.reg r = s.reg r) ∧
  (∀ (r : Reg8) (s t u : State), exec (.mkRot .rl (.reg r)) s = .next t → exec (.mkRot .rr (.reg r)) t = .next u →
    u.reg r = s.reg r ∧ u.flags.c = s.flags.c)

/-- For any two numbers below 100 in packed BCD and either incoming carry: ADC A,n then DAA leaves the BCD of the sum
with carry modulo 100 in A and the decimal carry in C; SBC A,n then DAA leaves the BCD of the difference modulo 100
and the decimal borrow in C. (R112, R114, R137, R185, R191, R208) -/
def Obligations.DaaMakesDecimalArithmetic : Prop :=
  ∀ (x y : Nat) (s t u : State), x < 100 → y < 100 → s.a = bcd x →
    (exec (.adcA_n (bcd y)) s = .next t → exec .daa t = .next u →
      u.a = bcd ((x + y + s.flags.c.toNat) % 100) ∧ u.flags.c = decide (100 ≤ x + y + s.flags.c.toNat)) ∧
    (exec (.sbcA_n (bcd y)) s = .next t → exec .daa t = .next u →
      u.a = bcd ((x + 100 - y + 100 - s.flags.c.toNat) % 100) ∧ u.flags.c = decide (x < y + s.flags.c.toNat))

/-- sys_t = 4 * sys_m and ins_t = 4 * ins_m in every state. Loading a snapshot gives exactly the state it was taken
from, with the memory of the state it is loaded into (the model's choice of format is log entry 13). (R43, R44, R51,
R318, R319, R353) -/
def Obligations.SnapshotAndDerivedClocks : Prop :=
  ∀ s u : State, s.sysT = 4 * s.sysM ∧ s.insT = 4 * s.insM ∧
    u.restore s.snapshot = { s with mem := u.mem }
end

