-- ==== Sys2Proof/Laws/State.lean ====
section
/-! SUPPORT. One lemma per field per update of the state: what each operation of Ops.lean, Operands.lean and Flags.lean
leaves in every field. -/

namespace Sys2Proof.Machine

open Sys2Proof

/-! ## Clocks -/

@[simp] theorem State.charge_a (s : State) (n : Nat) : (s.charge n).a = s.a := rfl
@[simp] theorem State.charge_flags (s : State) (n : Nat) : (s.charge n).flags = s.flags := rfl
@[simp] theorem State.charge_b (s : State) (n : Nat) : (s.charge n).b = s.b := rfl
@[simp] theorem State.charge_c (s : State) (n : Nat) : (s.charge n).c = s.c := rfl
@[simp] theorem State.charge_d (s : State) (n : Nat) : (s.charge n).d = s.d := rfl
@[simp] theorem State.charge_e (s : State) (n : Nat) : (s.charge n).e = s.e := rfl
@[simp] theorem State.charge_h (s : State) (n : Nat) : (s.charge n).h = s.h := rfl
@[simp] theorem State.charge_l (s : State) (n : Nat) : (s.charge n).l = s.l := rfl
@[simp] theorem State.charge_sp (s : State) (n : Nat) : (s.charge n).sp = s.sp := rfl
@[simp] theorem State.charge_pc (s : State) (n : Nat) : (s.charge n).pc = s.pc := rfl
@[simp] theorem State.charge_ime (s : State) (n : Nat) : (s.charge n).ime = s.ime := rfl
@[simp] theorem State.charge_halted (s : State) (n : Nat) : (s.charge n).halted = s.halted := rfl
@[simp] theorem State.charge_stopped (s : State) (n : Nat) : (s.charge n).stopped = s.stopped := rfl
@[simp] theorem State.charge_locked (s : State) (n : Nat) : (s.charge n).locked = s.locked := rfl
@[simp] theorem State.charge_currentOpcode (s : State) (n : Nat) : (s.charge n).currentOpcode = s.currentOpcode := rfl
@[simp] theorem State.charge_currentExtendedOpcode (s : State) (n : Nat) : (s.charge n).currentExtendedOpcode = s.currentExtendedOpcode := rfl
@[simp] theorem State.charge_sysM (s : State) (n : Nat) : (s.charge n).sysM = s.sysM + n := rfl
@[simp] theorem State.charge_insM (s : State) (n : Nat) : (s.charge n).insM = s.insM + n := rfl
@[simp] theorem State.charge_mem (s : State) (n : Nat) : (s.charge n).mem = s.mem := rfl

/-! ## Run states -/

@[simp] theorem State.idleStep_a (s : State) : (s.idleStep).a = s.a := rfl
@[simp] theorem State.idleStep_flags (s : State) : (s.idleStep).flags = s.flags := rfl
@[simp] theorem State.idleStep_b (s : State) : (s.idleStep).b = s.b := rfl
@[simp] theorem State.idleStep_c (s : State) : (s.idleStep).c = s.c := rfl
@[simp] theorem State.idleStep_d (s : State) : (s.idleStep).d = s.d := rfl
@[simp] theorem State.idleStep_e (s : State) : (s.idleStep).e = s.e := rfl
@[simp] theorem State.idleStep_h (s : State) : (s.idleStep).h = s.h := rfl
@[simp] theorem State.idleStep_l (s : State) : (s.idleStep).l = s.l := rfl
@[simp] theorem State.idleStep_sp (s : State) : (s.idleStep).sp = s.sp := rfl
@[simp] theorem State.idleStep_pc (s : State) : (s.idleStep).pc = s.pc := rfl
@[simp] theorem State.idleStep_ime (s : State) : (s.idleStep).ime = s.ime := rfl
@[simp] theorem State.idleStep_halted (s : State) : (s.idleStep).halted = s.halted := rfl
@[simp] theorem State.idleStep_stopped (s : State) : (s.idleStep).stopped = s.stopped := rfl
@[simp] theorem State.idleStep_locked (s : State) : (s.idleStep).locked = s.locked := rfl
@[simp] theorem State.idleStep_currentOpcode (s : State) : (s.idleStep).currentOpcode = s.currentOpcode := rfl
@[simp] theorem State.idleStep_currentExtendedOpcode (s : State) : (s.idleStep).currentExtendedOpcode = s.currentExtendedOpcode := rfl
@[simp] theorem State.idleStep_sysM (s : State) : (s.idleStep).sysM = s.sysM + 1 := rfl
@[simp] theorem State.idleStep_insM (s : State) : (s.idleStep).insM = s.insM := rfl
@[simp] theorem State.idleStep_mem (s : State) : (s.idleStep).mem = s.mem := rfl

/-! ## The lock -/

@[simp] theorem State.lock_a (s : State) : (s.lock).a = s.a := rfl
@[simp] theorem State.lock_flags (s : State) : (s.lock).flags = s.flags := rfl
@[simp] theorem State.lock_b (s : State) : (s.lock).b = s.b := rfl
@[simp] theorem State.lock_c (s : State) : (s.lock).c = s.c := rfl
@[simp] theorem State.lock_d (s : State) : (s.lock).d = s.d := rfl
@[simp] theorem State.lock_e (s : State) : (s.lock).e = s.e := rfl
@[simp] theorem State.lock_h (s : State) : (s.lock).h = s.h := rfl
@[simp] theorem State.lock_l (s : State) : (s.lock).l = s.l := rfl
@[simp] theorem State.lock_sp (s : State) : (s.lock).sp = s.sp := rfl
@[simp] theorem State.lock_pc (s : State) : (s.lock).pc = s.pc := rfl
@[simp] theorem State.lock_ime (s : State) : (s.lock).ime = s.ime := rfl
@[simp] theorem State.lock_halted (s : State) : (s.lock).halted = s.halted := rfl
@[simp] theorem State.lock_stopped (s : State) : (s.lock).stopped = s.stopped := rfl
@[simp] theorem State.lock_locked (s : State) : (s.lock).locked = true := rfl
@[simp] theorem State.lock_currentOpcode (s : State) : (s.lock).currentOpcode = s.currentOpcode := rfl
@[simp] theorem State.lock_currentExtendedOpcode (s : State) : (s.lock).currentExtendedOpcode = s.currentExtendedOpcode := rfl
@[simp] theorem State.lock_sysM (s : State) : (s.lock).sysM = s.sysM := rfl
@[simp] theorem State.lock_insM (s : State) : (s.lock).insM = s.insM := rfl
@[simp] theorem State.lock_mem (s : State) : (s.lock).mem = s.mem := rfl

/-! ## Waking -/

@[simp] theorem State.wake_a (s : State) : (s.wake).a = s.a := rfl
@[simp] theorem State.wake_flags (s : State) : (s.wake).flags = s.flags := rfl
@[simp] theorem State.wake_b (s : State) : (s.wake).b = s.b := rfl
@[simp] theorem State.wake_c (s : State) : (s.wake).c = s.c := rfl
@[simp] theorem State.wake_d (s : State) : (s.wake).d = s.d := rfl
@[simp] theorem State.wake_e (s : State) : (s.wake).e = s.e := rfl
@[simp] theorem State.wake_h (s : State) : (s.wake).h = s.h := rfl
@[simp] theorem State.wake_l (s : State) : (s.wake).l = s.l := rfl
@[simp] theorem State.wake_sp (s : State) : (s.wake).sp = s.sp := rfl
@[simp] theorem State.wake_pc (s : State) : (s.wake).pc = s.pc := rfl
@[simp] theorem State.wake_ime (s : State) : (s.wake).ime = s.ime := rfl
@[simp] theorem State.wake_halted (s : State) : (s.wake).halted = false := rfl
@[simp] theorem State.wake_stopped (s : State) : (s.wake).stopped = false := rfl
@[simp] theorem State.wake_locked (s : State) : (s.wake).locked = false := rfl
@[simp] theorem State.wake_currentOpcode (s : State) : (s.wake).currentOpcode = s.currentOpcode := rfl
@[simp] theorem State.wake_currentExtendedOpcode (s : State) : (s.wake).currentExtendedOpcode = s.currentExtendedOpcode := rfl
@[simp] theorem State.wake_sysM (s : State) : (s.wake).sysM = s.sysM := rfl
@[simp] theorem State.wake_insM (s : State) : (s.wake).insM = s.insM := rfl
@[simp] theorem State.wake_mem (s : State) : (s.wake).mem = s.mem := rfl

/-! ## Pair BC -/

@[simp] theorem State.setBC_a (s : State) (v : Word) : (s.setBC v).a = s.a := rfl
@[simp] theorem State.setBC_flags (s : State) (v : Word) : (s.setBC v).flags = s.flags := rfl
@[simp] theorem State.setBC_b (s : State) (v : Word) : (s.setBC v).b = hiByte v := rfl
@[simp] theorem State.setBC_c (s : State) (v : Word) : (s.setBC v).c = loByte v := rfl
@[simp] theorem State.setBC_d (s : State) (v : Word) : (s.setBC v).d = s.d := rfl
@[simp] theorem State.setBC_e (s : State) (v : Word) : (s.setBC v).e = s.e := rfl
@[simp] theorem State.setBC_h (s : State) (v : Word) : (s.setBC v).h = s.h := rfl
@[simp] theorem State.setBC_l (s : State) (v : Word) : (s.setBC v).l = s.l := rfl
@[simp] theorem State.setBC_sp (s : State) (v : Word) : (s.setBC v).sp = s.sp := rfl
@[simp] theorem State.setBC_pc (s : State) (v : Word) : (s.setBC v).pc = s.pc := rfl
@[simp] theorem State.setBC_ime (s : State) (v : Word) : (s.setBC v).ime = s.ime := rfl
@[simp] theorem State.setBC_halted (s : State) (v : Word) : (s.setBC v).halted = s.halted := rfl
@[simp] theorem State.setBC_stopped (s : State) (v : Word) : (s.setBC v).stopped = s.stopped := rfl
@[simp] theorem State.setBC_locked (s : State) (v : Word) : (s.setBC v).locked = s.locked := rfl
@[simp] theorem State.setBC_currentOpcode (s : State) (v : Word) : (s.setBC v).currentOpcode = s.currentOpcode := rfl
@[simp] theorem State.setBC_currentExtendedOpcode (s : State) (v : Word) : (s.setBC v).currentExtendedOpcode = s.currentExtendedOpcode := rfl
@[simp] theorem State.setBC_sysM (s : State) (v : Word) : (s.setBC v).sysM = s.sysM := rfl
@[simp] theorem State.setBC_insM (s : State) (v : Word) : (s.setBC v).insM = s.insM := rfl
@[simp] theorem State.setBC_mem (s : State) (v : Word) : (s.setBC v).mem = s.mem := rfl

/-! ## Pair DE -/

@[simp] theorem State.setDE_a (s : State) (v : Word) : (s.setDE v).a = s.a := rfl
@[simp] theorem State.setDE_flags (s : State) (v : Word) : (s.setDE v).flags = s.flags := rfl
@[simp] theorem State.setDE_b (s : State) (v : Word) : (s.setDE v).b = s.b := rfl
@[simp] theorem State.setDE_c (s : State) (v : Word) : (s.setDE v).c = s.c := rfl
@[simp] theorem State.setDE_d (s : State) (v : Word) : (s.setDE v).d = hiByte v := rfl
@[simp] theorem State.setDE_e (s : State) (v : Word) : (s.setDE v).e = loByte v := rfl
@[simp] theorem State.setDE_h (s : State) (v : Word) : (s.setDE v).h = s.h := rfl
@[simp] theorem State.setDE_l (s : State) (v : Word) : (s.setDE v).l = s.l := rfl
@[simp] theorem State.setDE_sp (s : State) (v : Word) : (s.setDE v).sp = s.sp := rfl
@[simp] theorem State.setDE_pc (s : State) (v : Word) : (s.setDE v).pc = s.pc := rfl
@[simp] theorem State.setDE_ime (s : State) (v : Word) : (s.setDE v).ime = s.ime := rfl
@[simp] theorem State.setDE_halted (s : State) (v : Word) : (s.setDE v).halted = s.halted := rfl
@[simp] theorem State.setDE_stopped (s : State) (v : Word) : (s.setDE v).stopped = s.stopped := rfl
@[simp] theorem State.setDE_locked (s : State) (v : Word) : (s.setDE v).locked = s.locked := rfl
@[simp] theorem State.setDE_currentOpcode (s : State) (v : Word) : (s.setDE v).currentOpcode = s.currentOpcode := rfl
@[simp] theorem State.setDE_currentExtendedOpcode (s : State) (v : Word) : (s.setDE v).currentExtendedOpcode = s.currentExtendedOpcode := rfl
@[simp] theorem State.setDE_sysM (s : State) (v : Word) : (s.setDE v).sysM = s.sysM := rfl
@[simp] theorem State.setDE_insM (s : State) (v : Word) : (s.setDE v).insM = s.insM := rfl
@[simp] theorem State.setDE_mem (s : State) (v : Word) : (s.setDE v).mem = s.mem := rfl

/-! ## Pair HL -/

@[simp] theorem State.setHL_a (s : State) (v : Word) : (s.setHL v).a = s.a := rfl
@[simp] theorem State.setHL_flags (s : State) (v : Word) : (s.setHL v).flags = s.flags := rfl
@[simp] theorem State.setHL_b (s : State) (v : Word) : (s.setHL v).b = s.b := rfl
@[simp] theorem State.setHL_c (s : State) (v : Word) : (s.setHL v).c = s.c := rfl
@[simp] theorem State.setHL_d (s : State) (v : Word) : (s.setHL v).d = s.d := rfl
@[simp] theorem State.setHL_e (s : State) (v : Word) : (s.setHL v).e = s.e := rfl
@[simp] theorem State.setHL_h (s : State) (v : Word) : (s.setHL v).h = hiByte v := rfl
@[simp] theorem State.setHL_l (s : State) (v : Word) : (s.setHL v).l = loByte v := rfl
@[simp] theorem State.setHL_sp (s : State) (v : Word) : (s.setHL v).sp = s.sp := rfl
@[simp] theorem State.setHL_pc (s : State) (v : Word) : (s.setHL v).pc = s.pc := rfl
@[simp] theorem State.setHL_ime (s : State) (v : Word) : (s.setHL v).ime = s.ime := rfl
@[simp] theorem State.setHL_halted (s : State) (v : Word) : (s.setHL v).halted = s.halted := rfl
@[simp] theorem State.setHL_stopped (s : State) (v : Word) : (s.setHL v).stopped = s.stopped := rfl
@[simp] theorem State.setHL_locked (s : State) (v : Word) : (s.setHL v).locked = s.locked := rfl
@[simp] theorem State.setHL_currentOpcode (s : State) (v : Word) : (s.setHL v).currentOpcode = s.currentOpcode := rfl
@[simp] theorem State.setHL_currentExtendedOpcode (s : State) (v : Word) : (s.setHL v).currentExtendedOpcode = s.currentExtendedOpcode := rfl
@[simp] theorem State.setHL_sysM (s : State) (v : Word) : (s.setHL v).sysM = s.sysM := rfl
@[simp] theorem State.setHL_insM (s : State) (v : Word) : (s.setHL v).insM = s.insM := rfl
@[simp] theorem State.setHL_mem (s : State) (v : Word) : (s.setHL v).mem = s.mem := rfl

/-! ## Pair AF -/

@[simp] theorem State.setAF_a (s : State) (v : Word) : (s.setAF v).a = hiByte v := rfl
@[simp] theorem State.setAF_flags (s : State) (v : Word) : (s.setAF v).flags = Flags.ofByte (loByte v) := rfl
@[simp] theorem State.setAF_b (s : State) (v : Word) : (s.setAF v).b = s.b := rfl
@[simp] theorem State.setAF_c (s : State) (v : Word) : (s.setAF v).c = s.c := rfl
@[simp] theorem State.setAF_d (s : State) (v : Word) : (s.setAF v).d = s.d := rfl
@[simp] theorem State.setAF_e (s : State) (v : Word) : (s.setAF v).e = s.e := rfl
@[simp] theorem State.setAF_h (s : State) (v : Word) : (s.setAF v).h = s.h := rfl
@[simp] theorem State.setAF_l (s : State) (v : Word) : (s.setAF v).l = s.l := rfl
@[simp] theorem State.setAF_sp (s : State) (v : Word) : (s.setAF v).sp = s.sp := rfl
@[simp] theorem State.setAF_pc (s : State) (v : Word) : (s.setAF v).pc = s.pc := rfl
@[simp] theorem State.setAF_ime (s : State) (v : Word) : (s.setAF v).ime = s.ime := rfl
@[simp] theorem State.setAF_halted (s : State) (v : Word) : (s.setAF v).halted = s.halted := rfl
@[simp] theorem State.setAF_stopped (s : State) (v : Word) : (s.setAF v).stopped = s.stopped := rfl
@[simp] theorem State.setAF_locked (s : State) (v : Word) : (s.setAF v).locked = s.locked := rfl
@[simp] theorem State.setAF_currentOpcode (s : State) (v : Word) : (s.setAF v).currentOpcode = s.currentOpcode := rfl
@[simp] theorem State.setAF_currentExtendedOpcode (s : State) (v : Word) : (s.setAF v).currentExtendedOpcode = s.currentExtendedOpcode := rfl
@[simp] theorem State.setAF_sysM (s : State) (v : Word) : (s.setAF v).sysM = s.sysM := rfl
@[simp] theorem State.setAF_insM (s : State) (v : Word) : (s.setAF v).insM = s.insM := rfl
@[simp] theorem State.setAF_mem (s : State) (v : Word) : (s.setAF v).mem = s.mem := rfl

/-! ## 8-bit registers -/

@[simp] theorem State.setReg_a (s : State) (r : Reg8) (v : Byte) : (s.setReg r v).a = if r = .a then v else s.a := by cases r <;> rfl
@[simp] theorem State.setReg_flags (s : State) (r : Reg8) (v : Byte) : (s.setReg r v).flags = s.flags := by cases r <;> rfl
@[simp] theorem State.setReg_b (s : State) (r : Reg8) (v : Byte) : (s.setReg r v).b = if r = .b then v else s.b := by cases r <;> rfl
@[simp] theorem State.setReg_c (s : State) (r : Reg8) (v : Byte) : (s.setReg r v).c = if r = .c then v else s.c := by cases r <;> rfl
@[simp] theorem State.setReg_d (s : State) (r : Reg8) (v : Byte) : (s.setReg r v).d = if r = .d then v else s.d := by cases r <;> rfl
@[simp] theorem State.setReg_e (s : State) (r : Reg8) (v : Byte) : (s.setReg r v).e = if r = .e then v else s.e := by cases r <;> rfl
@[simp] theorem State.setReg_h (s : State) (r : Reg8) (v : Byte) : (s.setReg r v).h = if r = .h then v else s.h := by cases r <;> rfl
@[simp] theorem State.setReg_l (s : State) (r : Reg8) (v : Byte) : (s.setReg r v).l = if r = .l then v else s.l := by cases r <;> rfl
@[simp] theorem State.setReg_sp (s : State) (r : Reg8) (v : Byte) : (s.setReg r v).sp = s.sp := by cases r <;> rfl
@[simp] theorem State.setReg_pc (s : State) (r : Reg8) (v : Byte) : (s.setReg r v).pc = s.pc := by cases r <;> rfl
@[simp] theorem State.setReg_ime (s : State) (r : Reg8) (v : Byte) : (s.setReg r v).ime = s.ime := by cases r <;> rfl
@[simp] theorem State.setReg_halted (s : State) (r : Reg8) (v : Byte) : (s.setReg r v).halted = s.halted := by cases r <;> rfl
@[simp] theorem State.setReg_stopped (s : State) (r : Reg8) (v : Byte) : (s.setReg r v).stopped = s.stopped := by cases r <;> rfl
@[simp] theorem State.setReg_locked (s : State) (r : Reg8) (v : Byte) : (s.setReg r v).locked = s.locked := by cases r <;> rfl
@[simp] theorem State.setReg_currentOpcode (s : State) (r : Reg8) (v : Byte) : (s.setReg r v).currentOpcode = s.currentOpcode := by cases r <;> rfl
@[simp] theorem State.setReg_currentExtendedOpcode (s : State) (r : Reg8) (v : Byte) : (s.setReg r v).currentExtendedOpcode = s.currentExtendedOpcode := by cases r <;> rfl
@[simp] theorem State.setReg_sysM (s : State) (r : Reg8) (v : Byte) : (s.setReg r v).sysM = s.sysM := by cases r <;> rfl
@[simp] theorem State.setReg_insM (s : State) (r : Reg8) (v : Byte) : (s.setReg r v).insM = s.insM := by cases r <;> rfl
@[simp] theorem State.setReg_mem (s : State) (r : Reg8) (v : Byte) : (s.setReg r v).mem = s.mem := by cases r <;> rfl

/-! ## Flags -/

@[simp] theorem State.writeFlags_a (s : State) (w : FlagWrite) : (s.writeFlags w).a = s.a := rfl
@[simp] theorem State.writeFlags_flags (s : State) (w : FlagWrite) : (s.writeFlags w).flags = s.flags.write w := rfl
@[simp] theorem State.writeFlags_b (s : State) (w : FlagWrite) : (s.writeFlags w).b = s.b := rfl
@[simp] theorem State.writeFlags_c (s : State) (w : FlagWrite) : (s.writeFlags w).c = s.c := rfl
@[simp] theorem State.writeFlags_d (s : State) (w : FlagWrite) : (s.writeFlags w).d = s.d := rfl
@[simp] theorem State.writeFlags_e (s : State) (w : FlagWrite) : (s.writeFlags w).e = s.e := rfl
@[simp] theorem State.writeFlags_h (s : State) (w : FlagWrite) : (s.writeFlags w).h = s.h := rfl
@[simp] theorem State.writeFlags_l (s : State) (w : FlagWrite) : (s.writeFlags w).l = s.l := rfl
@[simp] theorem State.writeFlags_sp (s : State) (w : FlagWrite) : (s.writeFlags w).sp = s.sp := rfl
@[simp] theorem State.writeFlags_pc (s : State) (w : FlagWrite) : (s.writeFlags w).pc = s.pc := rfl
@[simp] theorem State.writeFlags_ime (s : State) (w : FlagWrite) : (s.writeFlags w).ime = s.ime := rfl
@[simp] theorem State.writeFlags_halted (s : State) (w : FlagWrite) : (s.writeFlags w).halted = s.halted := rfl
@[simp] theorem State.writeFlags_stopped (s : State) (w : FlagWrite) : (s.writeFlags w).stopped = s.stopped := rfl
@[simp] theorem State.writeFlags_locked (s : State) (w : FlagWrite) : (s.writeFlags w).locked = s.locked := rfl
@[simp] theorem State.writeFlags_currentOpcode (s : State) (w : FlagWrite) : (s.writeFlags w).currentOpcode = s.currentOpcode := rfl
@[simp] theorem State.writeFlags_currentExtendedOpcode (s : State) (w : FlagWrite) : (s.writeFlags w).currentExtendedOpcode = s.currentExtendedOpcode := rfl
@[simp] theorem State.writeFlags_sysM (s : State) (w : FlagWrite) : (s.writeFlags w).sysM = s.sysM := rfl
@[simp] theorem State.writeFlags_insM (s : State) (w : FlagWrite) : (s.writeFlags w).insM = s.insM := rfl
@[simp] theorem State.writeFlags_mem (s : State) (w : FlagWrite) : (s.writeFlags w).mem = s.mem := rfl

/-! ## A and flags -/

@[simp] theorem State.applyToA_a (s : State) (out : Byte × FlagWrite) : (s.applyToA out).a = out.1 := rfl
@[simp] theorem State.applyToA_flags (s : State) (out : Byte × FlagWrite) : (s.applyToA out).flags = s.flags.write out.2 := rfl
@[simp] theorem State.applyToA_b (s : State) (out : Byte × FlagWrite) : (s.applyToA out).b = s.b := rfl
@[simp] theorem State.applyToA_c (s : State) (out : Byte × FlagWrite) : (s.applyToA out).c = s.c := rfl
@[simp] theorem State.applyToA_d (s : State) (out : Byte × FlagWrite) : (s.applyToA out).d = s.d := rfl
@[simp] theorem State.applyToA_e (s : State) (out : Byte × FlagWrite) : (s.applyToA out).e = s.e := rfl
@[simp] theorem State.applyToA_h (s : State) (out : Byte × FlagWrite) : (s.applyToA out).h = s.h := rfl
@[simp] theorem State.applyToA_l (s : State) (out : Byte × FlagWrite) : (s.applyToA out).l = s.l := rfl
@[simp] theorem State.applyToA_sp (s : State) (out : Byte × FlagWrite) : (s.applyToA out).sp = s.sp := rfl
@[simp] theorem State.applyToA_pc (s : State) (out : Byte × FlagWrite) : (s.applyToA out).pc = s.pc := rfl
@[simp] theorem State.applyToA_ime (s : State) (out : Byte × FlagWrite) : (s.applyToA out).ime = s.ime := rfl
@[simp] theorem State.applyToA_halted (s : State) (out : Byte × FlagWrite) : (s.applyToA out).halted = s.halted := rfl
@[simp] theorem State.applyToA_stopped (s : State) (out : Byte × FlagWrite) : (s.applyToA out).stopped = s.stopped := rfl
@[simp] theorem State.applyToA_locked (s : State) (out : Byte × FlagWrite) : (s.applyToA out).locked = s.locked := rfl
@[simp] theorem State.applyToA_currentOpcode (s : State) (out : Byte × FlagWrite) : (s.applyToA out).currentOpcode = s.currentOpcode := rfl
@[simp] theorem State.applyToA_currentExtendedOpcode (s : State) (out : Byte × FlagWrite) : (s.applyToA out).currentExtendedOpcode = s.currentExtendedOpcode := rfl
@[simp] theorem State.applyToA_sysM (s : State) (out : Byte × FlagWrite) : (s.applyToA out).sysM = s.sysM := rfl
@[simp] theorem State.applyToA_insM (s : State) (out : Byte × FlagWrite) : (s.applyToA out).insM = s.insM := rfl
@[simp] theorem State.applyToA_mem (s : State) (out : Byte × FlagWrite) : (s.applyToA out).mem = s.mem := rfl

/-! ## Byte stores -/

@[simp] theorem State.write8_a (s : State) (x : Word) (v : Byte) : (s.write8 x v).a = s.a := rfl
@[simp] theorem State.write8_flags (s : State) (x : Word) (v : Byte) : (s.write8 x v).flags = s.flags := rfl
@[simp] theorem State.write8_b (s : State) (x : Word) (v : Byte) : (s.write8 x v).b = s.b := rfl
@[simp] theorem State.write8_c (s : State) (x : Word) (v : Byte) : (s.write8 x v).c = s.c := rfl
@[simp] theorem State.write8_d (s : State) (x : Word) (v : Byte) : (s.write8 x v).d = s.d := rfl
@[simp] theorem State.write8_e (s : State) (x : Word) (v : Byte) : (s.write8 x v).e = s.e := rfl
@[simp] theorem State.write8_h (s : State) (x : Word) (v : Byte) : (s.write8 x v).h = s.h := rfl
@[simp] theorem State.write8_l (s : State) (x : Word) (v : Byte) : (s.write8 x v).l = s.l := rfl
@[simp] theorem State.write8_sp (s : State) (x : Word) (v : Byte) : (s.write8 x v).sp = s.sp := rfl
@[simp] theorem State.write8_pc (s : State) (x : Word) (v : Byte) : (s.write8 x v).pc = s.pc := rfl
@[simp] theorem State.write8_ime (s : State) (x : Word) (v : Byte) : (s.write8 x v).ime = s.ime := rfl
@[simp] theorem State.write8_halted (s : State) (x : Word) (v : Byte) : (s.write8 x v).halted = s.halted := rfl
@[simp] theorem State.write8_stopped (s : State) (x : Word) (v : Byte) : (s.write8 x v).stopped = s.stopped := rfl
@[simp] theorem State.write8_locked (s : State) (x : Word) (v : Byte) : (s.write8 x v).locked = s.locked := rfl
@[simp] theorem State.write8_currentOpcode (s : State) (x : Word) (v : Byte) : (s.write8 x v).currentOpcode = s.currentOpcode := rfl
@[simp] theorem State.write8_currentExtendedOpcode (s : State) (x : Word) (v : Byte) : (s.write8 x v).currentExtendedOpcode = s.currentExtendedOpcode := rfl
@[simp] theorem State.write8_sysM (s : State) (x : Word) (v : Byte) : (s.write8 x v).sysM = s.sysM := rfl
@[simp] theorem State.write8_insM (s : State) (x : Word) (v : Byte) : (s.write8 x v).insM = s.insM := rfl
@[simp] theorem State.write8_mem (s : State) (x : Word) (v : Byte) : (s.write8 x v).mem = Memory.set s.mem x.toNat v := rfl

/-! ## Word stores -/

@[simp] theorem State.write16_a (s : State) (x v : Word) : (s.write16 x v).a = s.a := rfl
@[simp] theorem State.write16_flags (s : State) (x v : Word) : (s.write16 x v).flags = s.flags := rfl
@[simp] theorem State.write16_b (s : State) (x v : Word) : (s.write16 x v).b = s.b := rfl
@[simp] theorem State.write16_c (s : State) (x v : Word) : (s.write16 x v).c = s.c := rfl
@[simp] theorem State.write16_d (s : State) (x v : Word) : (s.write16 x v).d = s.d := rfl
@[simp] theorem State.write16_e (s : State) (x v : Word) : (s.write16 x v).e = s.e := rfl
@[simp] theorem State.write16_h (s : State) (x v : Word) : (s.write16 x v).h = s.h := rfl
@[simp] theorem State.write16_l (s : State) (x v : Word) : (s.write16 x v).l = s.l := rfl
@[simp] theorem State.write16_sp (s : State) (x v : Word) : (s.write16 x v).sp = s.sp := rfl
@[simp] theorem State.write16_pc (s : State) (x v : Word) : (s.write16 x v).pc = s.pc := rfl
@[simp] theorem State.write16_ime (s : State) (x v : Word) : (s.write16 x v).ime = s.ime := rfl
@[simp] theorem State.write16_halted (s : State) (x v : Word) : (s.write16 x v).halted = s.halted := rfl
@[simp] theorem State.write16_stopped (s : State) (x v : Word) : (s.write16 x v).stopped = s.stopped := rfl
@[simp] theorem State.write16_locked (s : State) (x v : Word) : (s.write16 x v).locked = s.locked := rfl
@[simp] theorem State.write16_currentOpcode (s : State) (x v : Word) : (s.write16 x v).currentOpcode = s.currentOpcode := rfl
@[simp] theorem State.write16_currentExtendedOpcode (s : State) (x v : Word) : (s.write16 x v).currentExtendedOpcode = s.currentExtendedOpcode := rfl
@[simp] theorem State.write16_sysM (s : State) (x v : Word) : (s.write16 x v).sysM = s.sysM := rfl
@[simp] theorem State.write16_insM (s : State) (x v : Word) : (s.write16 x v).insM = s.insM := rfl
@[simp] theorem State.write16_mem (s : State) (x v : Word) : (s.write16 x v).mem = Memory.set (Memory.set s.mem x.toNat (loByte v)) (x + 1).toNat (hiByte v) := rfl

/-! ## Push -/

@[simp] theorem State.push16_a (s : State) (v : Word) : (s.push16 v).a = s.a := rfl
@[simp] theorem State.push16_flags (s : State) (v : Word) : (s.push16 v).flags = s.flags := rfl
@[simp] theorem State.push16_b (s : State) (v : Word) : (s.push16 v).b = s.b := rfl
@[simp] theorem State.push16_c (s : State) (v : Word) : (s.push16 v).c = s.c := rfl
@[simp] theorem State.push16_d (s : State) (v : Word) : (s.push16 v).d = s.d := rfl
@[simp] theorem State.push16_e (s : State) (v : Word) : (s.push16 v).e = s.e := rfl
@[simp] theorem State.push16_h (s : State) (v : Word) : (s.push16 v).h = s.h := rfl
@[simp] theorem State.push16_l (s : State) (v : Word) : (s.push16 v).l = s.l := rfl
@[simp] theorem State.push16_sp (s : State) (v : Word) : (s.push16 v).sp = s.sp - 2 := rfl
@[simp] theorem State.push16_pc (s : State) (v : Word) : (s.push16 v).pc = s.pc := rfl
@[simp] theorem State.push16_ime (s : State) (v : Word) : (s.push16 v).ime = s.ime := rfl
@[simp] theorem State.push16_halted (s : State) (v : Word) : (s.push16 v).halted = s.halted := rfl
@[simp] theorem State.push16_stopped (s : State) (v : Word) : (s.push16 v).stopped = s.stopped := rfl
@[simp] theorem State.push16_locked (s : State) (v : Word) : (s.push16 v).locked = s.locked := rfl
@[simp] theorem State.push16_currentOpcode (s : State) (v : Word) : (s.push16 v).currentOpcode = s.currentOpcode := rfl
@[simp] theorem State.push16_currentExtendedOpcode (s : State) (v : Word) : (s.push16 v).currentExtendedOpcode = s.currentExtendedOpcode := rfl
@[simp] theorem State.push16_sysM (s : State) (v : Word) : (s.push16 v).sysM = s.sysM := rfl
@[simp] theorem State.push16_insM (s : State) (v : Word) : (s.push16 v).insM = s.insM := rfl
@[simp] theorem State.push16_mem (s : State) (v : Word) : (s.push16 v).mem = Memory.set (Memory.set s.mem (s.sp - 2).toNat (loByte v)) (s.sp - 2 + 1).toNat (hiByte v) := rfl

/-! ## Pop -/

@[simp] theorem State.pop16_a (s : State) : (s.pop16.2).a = s.a := rfl
@[simp] theorem State.pop16_flags (s : State) : (s.pop16.2).flags = s.flags := rfl
@[simp] theorem State.pop16_b (s : State) : (s.pop16.2).b = s.b := rfl
@[simp] theorem State.pop16_c (s : State) : (s.pop16.2).c = s.c := rfl
@[simp] theorem State.pop16_d (s : State) : (s.pop16.2).d = s.d := rfl
@[simp] theorem State.pop16_e (s : State) : (s.pop16.2).e = s.e := rfl
@[simp] theorem State.pop16_h (s : State) : (s.pop16.2).h = s.h := rfl
@[simp] theorem State.pop16_l (s : State) : (s.pop16.2).l = s.l := rfl
@[simp] theorem State.pop16_sp (s : State) : (s.pop16.2).sp = s.sp + 2 := rfl
@[simp] theorem State.pop16_pc (s : State) : (s.pop16.2).pc = s.pc := rfl
@[simp] theorem State.pop16_ime (s : State) : (s.pop16.2).ime = s.ime := rfl
@[simp] theorem State.pop16_halted (s : State) : (s.pop16.2).halted = s.halted := rfl
@[simp] theorem State.pop16_stopped (s : State) : (s.pop16.2).stopped = s.stopped := rfl
@[simp] theorem State.pop16_locked (s : State) : (s.pop16.2).locked = s.locked := rfl
@[simp] theorem State.pop16_currentOpcode (s : State) : (s.pop16.2).currentOpcode = s.currentOpcode := rfl
@[simp] theorem State.pop16_currentExtendedOpcode (s : State) : (s.pop16.2).currentExtendedOpcode = s.currentExtendedOpcode := rfl
@[simp] theorem State.pop16_sysM (s : State) : (s.pop16.2).sysM = s.sysM := rfl
@[simp] theorem State.pop16_insM (s : State) : (s.pop16.2).insM = s.insM := rfl
@[simp] theorem State.pop16_mem (s : State) : (s.pop16.2).mem = s.mem := rfl

@[simp] theorem State.pop16_value (s : State) : s.pop16.1 = s.read16 s.sp := rfl

/-! ## rp operands -/

@[simp] theorem State.setPair_a (s : State) (p : Pair) (v : Word) : (s.setPair p v).a = s.a := by cases p <;> rfl
@[simp] theorem State.setPair_flags (s : State) (p : Pair) (v : Word) : (s.setPair p v).flags = s.flags := by cases p <;> rfl
@[simp] theorem State.setPair_b (s : State) (p : Pair) (v : Word) : (s.setPair p v).b = if p = .bc then hiByte v else s.b := by cases p <;> rfl
@[simp] theorem State.setPair_c (s : State) (p : Pair) (v : Word) : (s.setPair p v).c = if p = .bc then loByte v else s.c := by cases p <;> rfl
@[simp] theorem State.setPair_d (s : State) (p : Pair) (v : Word) : (s.setPair p v).d = if p = .de then hiByte v else s.d := by cases p <;> rfl
@[simp] theorem State.setPair_e (s : State) (p : Pair) (v : Word) : (s.setPair p v).e = if p = .de then loByte v else s.e := by cases p <;> rfl
@[simp] theorem State.setPair_h (s : State) (p : Pair) (v : Word) : (s.setPair p v).h = if p = .hl then hiByte v else s.h := by cases p <;> rfl
@[simp] theorem State.setPair_l (s : State) (p : Pair) (v : Word) : (s.setPair p v).l = if p = .hl then loByte v else s.l := by cases p <;> rfl
@[simp] theorem State.setPair_sp (s : State) (p : Pair) (v : Word) : (s.setPair p v).sp = if p = .sp then v else s.sp := by cases p <;> rfl
@[simp] theorem State.setPair_pc (s : State) (p : Pair) (v : Word) : (s.setPair p v).pc = s.pc := by cases p <;> rfl
@[simp] theorem State.setPair_ime (s : State) (p : Pair) (v : Word) : (s.setPair p v).ime = s.ime := by cases p <;> rfl
@[simp] theorem State.setPair_halted (s : State) (p : Pair) (v : Word) : (s.setPair p v).halted = s.halted := by cases p <;> rfl
@[simp] theorem State.setPair_stopped (s : State) (p : Pair) (v : Word) : (s.setPair p v).stopped = s.stopped := by cases p <;> rfl
@[simp] theorem State.setPair_locked (s : State) (p : Pair) (v : Word) : (s.setPair p v).locked = s.locked := by cases p <;> rfl
@[simp] theorem State.setPair_currentOpcode (s : State) (p : Pair) (v : Word) : (s.setPair p v).currentOpcode = s.currentOpcode := by cases p <;> rfl
@[simp] theorem State.setPair_currentExtendedOpcode (s : State) (p : Pair) (v : Word) : (s.setPair p v).currentExtendedOpcode = s.currentExtendedOpcode := by cases p <;> rfl
@[simp] theorem State.setPair_sysM (s : State) (p : Pair) (v : Word) : (s.setPair p v).sysM = s.sysM := by cases p <;> rfl
@[simp] theorem State.setPair_insM (s : State) (p : Pair) (v : Word) : (s.setPair p v).insM = s.insM := by cases p <;> rfl
@[simp] theorem State.setPair_mem (s : State) (p : Pair) (v : Word) : (s.setPair p v).mem = s.mem := by cases p <;> rfl

/-! ## rp2 operands -/

@[simp] theorem State.setStackPair_a (s : State) (p : StackPair) (v : Word) : (s.setStackPair p v).a = if p = .af then hiByte v else s.a := by cases p <;> rfl
@[simp] theorem State.setStackPair_flags (s : State) (p : StackPair) (v : Word) : (s.setStackPair p v).flags = if p = .af then Flags.ofByte (loByte v) else s.flags := by cases p <;> rfl
@[simp] theorem State.setStackPair_b (s : State) (p : StackPair) (v : Word) : (s.setStackPair p v).b = if p = .bc then hiByte v else s.b := by cases p <;> rfl
@[simp] theorem State.setStackPair_c (s : State) (p : StackPair) (v : Word) : (s.setStackPair p v).c = if p = .bc then loByte v else s.c := by cases p <;> rfl
@[simp] theorem State.setStackPair_d (s : State) (p : StackPair) (v : Word) : (s.setStackPair p v).d = if p = .de then hiByte v else s.d := by cases p <;> rfl
@[simp] theorem State.setStackPair_e (s : State) (p : StackPair) (v : Word) : (s.setStackPair p v).e = if p = .de then loByte v else s.e := by cases p <;> rfl
@[simp] theorem State.setStackPair_h (s : State) (p : StackPair) (v : Word) : (s.setStackPair p v).h = if p = .hl then hiByte v else s.h := by cases p <;> rfl
@[simp] theorem State.setStackPair_l (s : State) (p : StackPair) (v : Word) : (s.setStackPair p v).l = if p = .hl then loByte v else s.l := by cases p <;> rfl
@[simp] theorem State.setStackPair_sp (s : State) (p : StackPair) (v : Word) : (s.setStackPair p v).sp = s.sp := by cases p <;> rfl
@[simp] theorem State.setStackPair_pc (s : State) (p : StackPair) (v : Word) : (s.setStackPair p v).pc = s.pc := by cases p <;> rfl
@[simp] theorem State.setStackPair_ime (s : State) (p : StackPair) (v : Word) : (s.setStackPair p v).ime = s.ime := by cases p <;> rfl
@[simp] theorem State.setStackPair_halted (s : State) (p : StackPair) (v : Word) : (s.setStackPair p v).halted = s.halted := by cases p <;> rfl
@[simp] theorem State.setStackPair_stopped (s : State) (p : StackPair) (v : Word) : (s.setStackPair p v).stopped = s.stopped := by cases p <;> rfl
@[simp] theorem State.setStackPair_locked (s : State) (p : StackPair) (v : Word) : (s.setStackPair p v).locked = s.locked := by cases p <;> rfl
@[simp] theorem State.setStackPair_currentOpcode (s : State) (p : StackPair) (v : Word) : (s.setStackPair p v).currentOpcode = s.currentOpcode := by cases p <;> rfl
@[simp] theorem State.setStackPair_currentExtendedOpcode (s : State) (p : StackPair) (v : Word) : (s.setStackPair p v).currentExtendedOpcode = s.currentExtendedOpcode := by cases p <;> rfl
@[simp] theorem State.setStackPair_sysM (s : State) (p : StackPair) (v : Word) : (s.setStackPair p v).sysM = s.sysM := by cases p <;> rfl
@[simp] theorem State.setStackPair_insM (s : State) (p : StackPair) (v : Word) : (s.setStackPair p v).insM = s.insM := by cases p <;> rfl
@[simp] theorem State.setStackPair_mem (s : State) (p : StackPair) (v : Word) : (s.setStackPair p v).mem = s.mem := by cases p <;> rfl

/-! ## r8 operands -/

@[simp] theorem State.setOpnd_a (s : State) (o : Opnd8) (v : Byte) : (s.setOpnd o v).a = if o = .reg .a then v else s.a := by
  cases o with
  | reg r => cases r <;> rfl
  | atHL => rfl
@[simp] theorem State.setOpnd_flags (s : State) (o : Opnd8) (v : Byte) : (s.setOpnd o v).flags = s.flags := by
  cases o with
  | reg r => cases r <;> rfl
  | atHL => rfl
@[simp] theorem State.setOpnd_b (s : State) (o : Opnd8) (v : Byte) : (s.setOpnd o v).b = if o = .reg .b then v else s.b := by
  cases o with
  | reg r => cases r <;> rfl
  | atHL => rfl
@[simp] theorem State.setOpnd_c (s : State) (o : Opnd8) (v : Byte) : (s.setOpnd o v).c = if o = .reg .c then v else s.c := by
  cases o with
  | reg r => cases r <;> rfl
  | atHL => rfl
@[simp] theorem State.setOpnd_d (s : State) (o : Opnd8) (v : Byte) : (s.setOpnd o v).d = if o = .reg .d then v else s.d := by
  cases o with
  | reg r => cases r <;> rfl
  | atHL => rfl
@[simp] theorem State.setOpnd_e (s : State) (o : Opnd8) (v : Byte) : (s.setOpnd o v).e = if o = .reg .e then v else s.e := by
  cases o with
  | reg r => cases r <;> rfl
  | atHL => rfl
@[simp] theorem State.setOpnd_h (s : State) (o : Opnd8) (v : Byte) : (s.setOpnd o v).h = if o = .reg .h then v else s.h := by
  cases o with
  | reg r => cases r <;> rfl
  | atHL => rfl
@[simp] theorem State.setOpnd_l (s : State) (o : Opnd8) (v : Byte) : (s.setOpnd o v).l = if o = .reg .l then v else s.l := by
  cases o with
  | reg r => cases r <;> rfl
  | atHL => rfl
@[simp] theorem State.setOpnd_sp (s : State) (o : Opnd8) (v : Byte) : (s.setOpnd o v).sp = s.sp := by
  cases o with
  | reg r => cases r <;> rfl
  | atHL => rfl
@[simp] theorem State.setOpnd_pc (s : State) (o : Opnd8) (v : Byte) : (s.setOpnd o v).pc = s.pc := by
  cases o with
  | reg r => cases r <;> rfl
  | atHL => rfl
@[simp] theorem State.setOpnd_ime (s : State) (o : Opnd8) (v : Byte) : (s.setOpnd o v).ime = s.ime := by
  cases o with
  | reg r => cases r <;> rfl
  | atHL => rfl
@[simp] theorem State.setOpnd_halted (s : State) (o : Opnd8) (v : Byte) : (s.setOpnd o v).halted = s.halted := by
  cases o with
  | reg r => cases r <;> rfl
  | atHL => rfl
@[simp] theorem State.setOpnd_stopped (s : State) (o : Opnd8) (v : Byte) : (s.setOpnd o v).stopped = s.stopped := by
  cases o with
  | reg r => cases r <;> rfl
  | atHL => rfl
@[simp] theorem State.setOpnd_locked (s : State) (o : Opnd8) (v : Byte) : (s.setOpnd o v).locked = s.locked := by
  cases o with
  | reg r => cases r <;> rfl
  | atHL => rfl
@[simp] theorem State.setOpnd_currentOpcode (s : State) (o : Opnd8) (v : Byte) : (s.setOpnd o v).currentOpcode = s.currentOpcode := by
  cases o with
  | reg r => cases r <;> rfl
  | atHL => rfl
@[simp] theorem State.setOpnd_currentExtendedOpcode (s : State) (o : Opnd8) (v : Byte) : (s.setOpnd o v).currentExtendedOpcode = s.currentExtendedOpcode := by
  cases o with
  | reg r => cases r <;> rfl
  | atHL => rfl
@[simp] theorem State.setOpnd_sysM (s : State) (o : Opnd8) (v : Byte) : (s.setOpnd o v).sysM = s.sysM := by
  cases o with
  | reg r => cases r <;> rfl
  | atHL => rfl
@[simp] theorem State.setOpnd_insM (s : State) (o : Opnd8) (v : Byte) : (s.setOpnd o v).insM = s.insM := by
  cases o with
  | reg r => cases r <;> rfl
  | atHL => rfl
@[simp] theorem State.setOpnd_mem (s : State) (o : Opnd8) (v : Byte) : (s.setOpnd o v).mem = if o = .atHL then Memory.set s.mem s.hl.toNat v else s.mem := by
  cases o with
  | reg r => cases r <;> rfl
  | atHL => rfl

/-! ## r8 operands with flags -/

@[simp] theorem State.applyToOpnd_a (s : State) (o : Opnd8) (out : Byte × FlagWrite) : (s.applyToOpnd o out).a = if o = .reg .a then out.1 else s.a := by
  cases o with
  | reg r => cases r <;> rfl
  | atHL => rfl
@[simp] theorem State.applyToOpnd_flags (s : State) (o : Opnd8) (out : Byte × FlagWrite) : (s.applyToOpnd o out).flags = s.flags.write out.2 := by
  cases o with
  | reg r => cases r <;> rfl
  | atHL => rfl
@[simp] theorem State.applyToOpnd_b (s : State) (o : Opnd8) (out : Byte × FlagWrite) : (s.applyToOpnd o out).b = if o = .reg .b then out.1 else s.b := by
  cases o with
  | reg r => cases r <;> rfl
  | atHL => rfl
@[simp] theorem State.applyToOpnd_c (s : State) (o : Opnd8) (out : Byte × FlagWrite) : (s.applyToOpnd o out).c = if o = .reg .c then out.1 else s.c := by
  cases o with
  | reg r => cases r <;> rfl
  | atHL => rfl
@[simp] theorem State.applyToOpnd_d (s : State) (o : Opnd8) (out : Byte × FlagWrite) : (s.applyToOpnd o out).d = if o = .reg .d then out.1 else s.d := by
  cases o with
  | reg r => cases r <;> rfl
  | atHL => rfl
@[simp] theorem State.applyToOpnd_e (s : State) (o : Opnd8) (out : Byte × FlagWrite) : (s.applyToOpnd o out).e = if o = .reg .e then out.1 else s.e := by
  cases o with
  | reg r => cases r <;> rfl
  | atHL => rfl
@[simp] theorem State.applyToOpnd_h (s : State) (o : Opnd8) (out : Byte × FlagWrite) : (s.applyToOpnd o out).h = if o = .reg .h then out.1 else s.h := by
  cases o with
  | reg r => cases r <;> rfl
  | atHL => rfl
@[simp] theorem State.applyToOpnd_l (s : State) (o : Opnd8) (out : Byte × FlagWrite) : (s.applyToOpnd o out).l = if o = .reg .l then out.1 else s.l := by
  cases o with
  | reg r => cases r <;> rfl
  | atHL => rfl
@[simp] theorem State.applyToOpnd_sp (s : State) (o : Opnd8) (out : Byte × FlagWrite) : (s.applyToOpnd o out).sp = s.sp := by
  cases o with
  | reg r => cases r <;> rfl
  | atHL => rfl
@[simp] theorem State.applyToOpnd_pc (s : State) (o : Opnd8) (out : Byte × FlagWrite) : (s.applyToOpnd o out).pc = s.pc := by
  cases o with
  | reg r => cases r <;> rfl
  | atHL => rfl
@[simp] theorem State.applyToOpnd_ime (s : State) (o : Opnd8) (out : Byte × FlagWrite) : (s.applyToOpnd o out).ime = s.ime := by
  cases o with
  | reg r => cases r <;> rfl
  | atHL => rfl
@[simp] theorem State.applyToOpnd_halted (s : State) (o : Opnd8) (out : Byte × FlagWrite) : (s.applyToOpnd o out).halted = s.halted := by
  cases o with
  | reg r => cases r <;> rfl
  | atHL => rfl
@[simp] theorem State.applyToOpnd_stopped (s : State) (o : Opnd8) (out : Byte × FlagWrite) : (s.applyToOpnd o out).stopped = s.stopped := by
  cases o with
  | reg r => cases r <;> rfl
  | atHL => rfl
@[simp] theorem State.applyToOpnd_locked (s : State) (o : Opnd8) (out : Byte × FlagWrite) : (s.applyToOpnd o out).locked = s.locked := by
  cases o with
  | reg r => cases r <;> rfl
  | atHL => rfl
@[simp] theorem State.applyToOpnd_currentOpcode (s : State) (o : Opnd8) (out : Byte × FlagWrite) : (s.applyToOpnd o out).currentOpcode = s.currentOpcode := by
  cases o with
  | reg r => cases r <;> rfl
  | atHL => rfl
@[simp] theorem State.applyToOpnd_currentExtendedOpcode (s : State) (o : Opnd8) (out : Byte × FlagWrite) : (s.applyToOpnd o out).currentExtendedOpcode = s.currentExtendedOpcode := by
  cases o with
  | reg r => cases r <;> rfl
  | atHL => rfl
@[simp] theorem State.applyToOpnd_sysM (s : State) (o : Opnd8) (out : Byte × FlagWrite) : (s.applyToOpnd o out).sysM = s.sysM := by
  cases o with
  | reg r => cases r <;> rfl
  | atHL => rfl
@[simp] theorem State.applyToOpnd_insM (s : State) (o : Opnd8) (out : Byte × FlagWrite) : (s.applyToOpnd o out).insM = s.insM := by
  cases o with
  | reg r => cases r <;> rfl
  | atHL => rfl
@[simp] theorem State.applyToOpnd_mem (s : State) (o : Opnd8) (out : Byte × FlagWrite) : (s.applyToOpnd o out).mem = if o = .atHL then Memory.set s.mem s.hl.toNat out.1 else s.mem := by
  cases o with
  | reg r => cases r <;> rfl
  | atHL => rfl

/-! ## After the fetch -/

@[simp] theorem State.afterFetch_a (s : State) : (s.afterFetch).a = s.a := rfl
@[simp] theorem State.afterFetch_flags (s : State) : (s.afterFetch).flags = s.flags := rfl
@[simp] theorem State.afterFetch_b (s : State) : (s.afterFetch).b = s.b := rfl
@[simp] theorem State.afterFetch_c (s : State) : (s.afterFetch).c = s.c := rfl
@[simp] theorem State.afterFetch_d (s : State) : (s.afterFetch).d = s.d := rfl
@[simp] theorem State.afterFetch_e (s : State) : (s.afterFetch).e = s.e := rfl
@[simp] theorem State.afterFetch_h (s : State) : (s.afterFetch).h = s.h := rfl
@[simp] theorem State.afterFetch_l (s : State) : (s.afterFetch).l = s.l := rfl
@[simp] theorem State.afterFetch_sp (s : State) : (s.afterFetch).sp = s.sp := rfl
@[simp] theorem State.afterFetch_pc (s : State) : (s.afterFetch).pc = s.pc + BitVec.ofNat 16 (instrLength s.fetchByte0) := rfl
@[simp] theorem State.afterFetch_ime (s : State) : (s.afterFetch).ime = s.ime := rfl
@[simp] theorem State.afterFetch_halted (s : State) : (s.afterFetch).halted = s.halted := rfl
@[simp] theorem State.afterFetch_stopped (s : State) : (s.afterFetch).stopped = s.stopped := rfl
@[simp] theorem State.afterFetch_locked (s : State) : (s.afterFetch).locked = s.locked := rfl
@[simp] theorem State.afterFetch_currentOpcode (s : State) : (s.afterFetch).currentOpcode = s.fetchByte0 := rfl
@[simp] theorem State.afterFetch_currentExtendedOpcode (s : State) : (s.afterFetch).currentExtendedOpcode = if s.fetchByte0 = prefixByte then s.fetchByte1 else s.currentExtendedOpcode := rfl
@[simp] theorem State.afterFetch_sysM (s : State) : (s.afterFetch).sysM = s.sysM := rfl
@[simp] theorem State.afterFetch_insM (s : State) : (s.afterFetch).insM = 0 := rfl
@[simp] theorem State.afterFetch_mem (s : State) : (s.afterFetch).mem = s.mem := rfl

/-! ## Views under updates that do not reach them -/

@[simp] theorem State.charge_reg (s : State) (n : Nat) (r : Reg8) : (s.charge n).reg r = s.reg r := by cases r <;> rfl
@[simp] theorem State.charge_read8 (s : State) (n : Nat) (x : Word) : (s.charge n).read8 x = s.read8 x := rfl
@[simp] theorem State.charge_hl (s : State) (n : Nat) : (s.charge n).hl = s.hl := rfl
@[simp] theorem State.idleStep_reg (s : State) (r : Reg8) : (s.idleStep).reg r = s.reg r := by cases r <;> rfl
@[simp] theorem State.idleStep_read8 (s : State) (x : Word) : (s.idleStep).read8 x = s.read8 x := rfl
@[simp] theorem State.idleStep_hl (s : State) : (s.idleStep).hl = s.hl := rfl
@[simp] theorem State.lock_reg (s : State) (r : Reg8) : (s.lock).reg r = s.reg r := by cases r <;> rfl
@[simp] theorem State.lock_read8 (s : State) (x : Word) : (s.lock).read8 x = s.read8 x := rfl
@[simp] theorem State.lock_hl (s : State) : (s.lock).hl = s.hl := rfl
@[simp] theorem State.wake_reg (s : State) (r : Reg8) : (s.wake).reg r = s.reg r := by cases r <;> rfl
@[simp] theorem State.wake_read8 (s : State) (x : Word) : (s.wake).read8 x = s.read8 x := rfl
@[simp] theorem State.wake_hl (s : State) : (s.wake).hl = s.hl := rfl
@[simp] theorem State.writeFlags_reg (s : State) (w : FlagWrite) (r : Reg8) : (s.writeFlags w).reg r = s.reg r := by cases r <;> rfl
@[simp] theorem State.writeFlags_read8 (s : State) (w : FlagWrite) (x : Word) : (s.writeFlags w).read8 x = s.read8 x := rfl
@[simp] theorem State.writeFlags_hl (s : State) (w : FlagWrite) : (s.writeFlags w).hl = s.hl := rfl
@[simp] theorem State.afterFetch_reg (s : State) (r : Reg8) : (s.afterFetch).reg r = s.reg r := by cases r <;> rfl
@[simp] theorem State.afterFetch_read8 (s : State) (x : Word) : (s.afterFetch).read8 x = s.read8 x := rfl
@[simp] theorem State.afterFetch_hl (s : State) : (s.afterFetch).hl = s.hl := rfl
@[simp] theorem State.write8_reg (s : State) (x : Word) (v : Byte) (r : Reg8) : (s.write8 x v).reg r = s.reg r := by cases r <;> rfl
@[simp] theorem State.write8_hl (s : State) (x : Word) (v : Byte) : (s.write8 x v).hl = s.hl := rfl
@[simp] theorem State.write16_reg (s : State) (x v : Word) (r : Reg8) : (s.write16 x v).reg r = s.reg r := by cases r <;> rfl
@[simp] theorem State.write16_hl (s : State) (x v : Word) : (s.write16 x v).hl = s.hl := rfl
@[simp] theorem State.push16_reg (s : State) (v : Word) (r : Reg8) : (s.push16 v).reg r = s.reg r := by cases r <;> rfl
@[simp] theorem State.push16_hl (s : State) (v : Word) : (s.push16 v).hl = s.hl := rfl
@[simp] theorem State.pop16_reg (s : State) (r : Reg8) : (s.pop16.2).reg r = s.reg r := by cases r <;> rfl
@[simp] theorem State.pop16_hl (s : State) : (s.pop16.2).hl = s.hl := rfl
@[simp] theorem State.setReg_read8 (s : State) (r : Reg8) (v : Byte) (x : Word) : (s.setReg r v).read8 x = s.read8 x := by simp [State.read8]
@[simp] theorem State.setPair_read8 (s : State) (p : Pair) (v : Word) (x : Word) : (s.setPair p v).read8 x = s.read8 x := by simp [State.read8]
@[simp] theorem State.setStackPair_read8 (s : State) (p : StackPair) (v : Word) (x : Word) : (s.setStackPair p v).read8 x = s.read8 x := by simp [State.read8]
@[simp] theorem State.setHL_read8 (s : State) (v : Word) (x : Word) : (s.setHL v).read8 x = s.read8 x := rfl
@[simp] theorem State.setBC_read8 (s : State) (v : Word) (x : Word) : (s.setBC v).read8 x = s.read8 x := rfl
@[simp] theorem State.setDE_read8 (s : State) (v : Word) (x : Word) : (s.setDE v).read8 x = s.read8 x := rfl
@[simp] theorem State.setAF_read8 (s : State) (v : Word) (x : Word) : (s.setAF v).read8 x = s.read8 x := rfl
@[simp] theorem State.pop16_read8 (s : State) (x : Word) : (s.pop16.2).read8 x = s.read8 x := rfl
@[simp] theorem State.applyToA_read8 (s : State) (out : Byte × FlagWrite) (x : Word) : (s.applyToA out).read8 x = s.read8 x := rfl

/-- Reading a register after a register write (R20, R22). -/
@[simp] theorem State.setReg_reg (s : State) (r q : Reg8) (v : Byte) :
    (s.setReg r v).reg q = if q = r then v else s.reg q := by
  cases r <;> cases q <;> rfl

/-- Reading a register after writing A and the flags. -/
@[simp] theorem State.applyToA_reg (s : State) (out : Byte × FlagWrite) (q : Reg8) :
    (s.applyToA out).reg q = if q = .a then out.1 else s.reg q := by
  cases q <;> rfl

/-- Reading a register after writing HL (R22). -/
@[simp] theorem State.setHL_reg (s : State) (v : Word) (q : Reg8) :
    (s.setHL v).reg q = if q = .h then hiByte v else if q = .l then loByte v else s.reg q := by
  cases q <;> rfl

end Sys2Proof.Machine
end

