-- ==== Sys2Proof/Laws/Memory.lean ====
section
/-! SUPPORT. The laws of memory (20_memory.md R62 to R67): a read after a write gives the value written at that address and
what was there elsewhere, and every memory operation keeps the canonical form. -/

namespace Sys2Proof.Machine

open Sys2Proof

/-! ## Reads after writes -/

theorem Memory.get_erase_self (m : Memory) (x : Nat) : Memory.get (Memory.erase m x) x = Config.mem0 x := by
  induction m with
  | nil => rfl
  | cons kv m ih =>
    obtain ⟨k, v⟩ := kv
    by_cases hk : k = x <;> simp [Memory.erase, Memory.get, hk, ih]

theorem Memory.get_erase_of_ne (m : Memory) {x y : Nat} (h : y ≠ x) :
    Memory.get (Memory.erase m x) y = Memory.get m y := by
  induction m with
  | nil => rfl
  | cons kv m ih =>
    obtain ⟨k, v⟩ := kv
    by_cases hk : k = x
    · have : k ≠ y := fun e => h (e ▸ hk)
      simp [Memory.erase, Memory.get, hk, ih, Ne.symm h]
    · simp [Memory.erase, Memory.get, hk, ih]

theorem Memory.get_insert_of_ne (m : Memory) {x y : Nat} (v : Byte) (h : y ≠ x) :
    Memory.get (Memory.insert m x v) y = Memory.get m y := by
  induction m with
  | nil => simp [Memory.insert, Memory.get, Ne.symm h]
  | cons kv m ih =>
    obtain ⟨k, w⟩ := kv
    by_cases hk : x < k <;> simp [Memory.insert, Memory.get, hk, ih, Ne.symm h]

/-- No entry for `x`: what an erased memory satisfies. -/
theorem Memory.get_insert_self (m : Memory) (x : Nat) (v : Byte) (h : ∀ kv ∈ m, kv.1 ≠ x) :
    Memory.get (Memory.insert m x v) x = v := by
  induction m with
  | nil => simp [Memory.insert, Memory.get]
  | cons kv m ih =>
    obtain ⟨k, w⟩ := kv
    have hk : k ≠ x := h (k, w) (by simp)
    by_cases hlt : x < k
    · simp [Memory.insert, Memory.get, hlt]
    · simp [Memory.insert, Memory.get, hlt, hk, ih (fun kv hkv => h kv (by simp [hkv]))]

theorem Memory.key_ne_of_mem_erase (m : Memory) (x : Nat) : ∀ kv ∈ Memory.erase m x, kv.1 ≠ x := by
  induction m with
  | nil => simp [Memory.erase]
  | cons kv m ih =>
    obtain ⟨k, v⟩ := kv
    by_cases hk : k = x
    · simpa [Memory.erase, hk] using ih
    · intro kv hkv
      simp only [Memory.erase, hk, if_false, List.mem_cons] at hkv
      rcases hkv with rfl | hkv
      · exact hk
      · exact ih kv hkv

/-- A read after a write to the same address gives the value written (R67). -/
@[simp] theorem Memory.get_set_self (m : Memory) (x : Nat) (v : Byte) : Memory.get (Memory.set m x v) x = v := by
  unfold Memory.set
  split
  · next h => rw [Memory.get_erase_self, h]
  · exact Memory.get_insert_self _ _ _ (Memory.key_ne_of_mem_erase m x)

/-- A write leaves every other address alone (R67). -/
theorem Memory.get_set_of_ne (m : Memory) {x y : Nat} (v : Byte) (h : y ≠ x) :
    Memory.get (Memory.set m x v) y = Memory.get m y := by
  unfold Memory.set
  split
  · exact Memory.get_erase_of_ne m h
  · rw [Memory.get_insert_of_ne _ v h, Memory.get_erase_of_ne m h]

/-- The two cases in one equation. -/
theorem Memory.get_set (m : Memory) (x y : Nat) (v : Byte) :
    Memory.get (Memory.set m x v) y = if y = x then v else Memory.get m y := by
  by_cases h : y = x
  · subst h; simp
  · simp [h, Memory.get_set_of_ne m v h]

/-- `read8` after `write8` (R62, R63, R67). -/
@[simp] theorem State.read8_write8 (s : State) (x y : Word) (v : Byte) :
    (s.write8 x v).read8 y = if y = x then v else s.read8 y := by
  simp only [State.read8, State.write8_mem, Memory.get_set, ← BitVec.toNat_inj]

/-- The bytes a word write leaves (R65, R66, R70): the high byte at `x + 1`, the low byte at `x`. -/
theorem State.read8_write16 (s : State) (x y v : Word) :
    (s.write16 x v).read8 y = if y = x + 1 then hiByte v else if y = x then loByte v else s.read8 y := by
  simp [State.write16]

/-- The bytes a push leaves (R71). -/
theorem State.read8_push16 (s : State) (y v : Word) :
    (s.push16 v).read8 y =
      if y = s.sp - 2 + 1 then hiByte v else if y = s.sp - 2 then loByte v else s.read8 y := by
  simp only [State.push16, State.read8_write16]
  rfl

/-- Memory after an `r8` operand is written: only the operand (HL) is in it (R90). -/
theorem State.read8_setOpnd (s : State) (o : Opnd8) (v : Byte) (x : Word) :
    (s.setOpnd o v).read8 x = if o = .atHL ∧ x = s.hl then v else s.read8 x := by
  cases o with
  | reg r => simp [State.setOpnd]
  | atHL => simp [State.setOpnd]

/-- The same after an `r8` operand and the flags are written. -/
theorem State.read8_applyToOpnd (s : State) (o : Opnd8) (out : Byte × FlagWrite) (x : Word) :
    (s.applyToOpnd o out).read8 x = if o = .atHL ∧ x = s.hl then out.1 else s.read8 x :=
  State.read8_setOpnd s o out.1 x

/-- An `r8` operand reads back what was written to it. -/
@[simp] theorem State.setOpnd_opnd (s : State) (o : Opnd8) (v : Byte) : (s.setOpnd o v).opnd o = v := by
  cases o with
  | reg r => simp [State.setOpnd, State.opnd]
  | atHL => exact (State.read8_write8 ..).trans (if_pos rfl)

/-- The same when the flags are written with it. -/
@[simp] theorem State.applyToOpnd_opnd (s : State) (o : Opnd8) (out : Byte × FlagWrite) :
    (s.applyToOpnd o out).opnd o = out.1 :=
  State.setOpnd_opnd s o out.1

/-! ## The canonical form -/

theorem Memory.wfFrom_mono {lo lo' : Nat} (m : Memory) (h : lo ≤ lo') (hm : Memory.wfFrom lo' m = true) :
    Memory.wfFrom lo m = true := by
  cases m with
  | nil => rfl
  | cons kv m =>
    obtain ⟨k, v⟩ := kv
    simp only [Memory.wfFrom, Bool.and_eq_true, decide_eq_true_eq] at hm ⊢
    exact ⟨⟨⟨by omega, hm.1.1.2⟩, hm.1.2⟩, hm.2⟩

theorem Memory.wfFrom_erase (m : Memory) (x : Nat) {lo : Nat} (hm : Memory.wfFrom lo m = true) :
    Memory.wfFrom lo (Memory.erase m x) = true := by
  induction m generalizing lo with
  | nil => rfl
  | cons kv m ih =>
    obtain ⟨k, v⟩ := kv
    simp only [Memory.wfFrom, Bool.and_eq_true, decide_eq_true_eq] at hm
    by_cases hk : k = x
    · simp only [Memory.erase, hk, if_true]
      exact ih (Memory.wfFrom_mono m (by omega) hm.2)
    · simp only [Memory.erase, hk, if_false, Memory.wfFrom, Bool.and_eq_true, decide_eq_true_eq]
      exact ⟨hm.1, ih hm.2⟩

theorem Memory.wfFrom_insert (m : Memory) (x : Nat) (v : Byte) {lo : Nat} (hm : Memory.wfFrom lo m = true)
    (hlo : lo ≤ x) (hx : x < Config.addressSpace) (hv : v ≠ Config.mem0 x) (hne : ∀ kv ∈ m, kv.1 ≠ x) :
    Memory.wfFrom lo (Memory.insert m x v) = true := by
  induction m generalizing lo with
  | nil => simp [Memory.insert, Memory.wfFrom, hlo, hx, hv]
  | cons kv m ih =>
    obtain ⟨k, w⟩ := kv
    have hk : k ≠ x := hne (k, w) (by simp)
    simp only [Memory.wfFrom, Bool.and_eq_true, decide_eq_true_eq] at hm
    by_cases hlt : x < k
    · simp only [Memory.insert, hlt, if_true, Memory.wfFrom, Bool.and_eq_true, decide_eq_true_eq]
      exact ⟨⟨⟨hlo, hx⟩, hv⟩, ⟨⟨by omega, hm.1.1.2⟩, hm.1.2⟩, hm.2⟩
    · simp only [Memory.insert, hlt, if_false, Memory.wfFrom, Bool.and_eq_true, decide_eq_true_eq]
      exact ⟨hm.1, ih hm.2 (by omega) (fun kv hkv => hne kv (by simp [hkv]))⟩

/-- A write inside the address space keeps the canonical form. -/
theorem Memory.wf_set (m : Memory) (x : Nat) (v : Byte) (hm : Memory.wf m = true) (hx : x < Config.addressSpace) :
    Memory.wf (Memory.set m x v) = true := by
  unfold Memory.set
  split
  · exact Memory.wfFrom_erase m x hm
  · next hv =>
    exact Memory.wfFrom_insert _ x v (Memory.wfFrom_erase m x hm) (Nat.zero_le _) hx hv
      (Memory.key_ne_of_mem_erase m x)

/-- A 16-bit address is inside the address space (R60). -/
theorem toNat_lt_addressSpace (x : Word) : x.toNat < Config.addressSpace := x.isLt

theorem State.write8_wf (s : State) (x : Word) (v : Byte) (h : Memory.wf s.mem = true) :
    Memory.wf (s.write8 x v).mem = true :=
  Memory.wf_set _ _ _ h (toNat_lt_addressSpace x)

theorem State.write16_wf (s : State) (x v : Word) (h : Memory.wf s.mem = true) :
    Memory.wf (s.write16 x v).mem = true :=
  State.write8_wf _ _ _ (State.write8_wf _ _ _ h)

theorem State.push16_wf (s : State) (v : Word) (h : Memory.wf s.mem = true) :
    Memory.wf (s.push16 v).mem = true :=
  State.write16_wf _ _ _ h

theorem State.load_wf (s : State) (x : Word) (vs : List Byte) (h : Memory.wf s.mem = true) :
    Memory.wf (s.load x vs).mem = true := by
  induction vs generalizing s x with
  | nil => exact h
  | cons v vs ih => exact ih _ _ (State.write8_wf _ _ _ h)

theorem State.setOpnd_wf (s : State) (o : Opnd8) (v : Byte) (h : Memory.wf s.mem = true) :
    Memory.wf (s.setOpnd o v).mem = true := by
  cases o with
  | reg r => simpa [State.setOpnd] using h
  | atHL => exact State.write8_wf _ _ _ h

theorem State.applyToOpnd_wf (s : State) (o : Opnd8) (out : Byte × FlagWrite) (h : Memory.wf s.mem = true) :
    Memory.wf (s.applyToOpnd o out).mem = true :=
  State.setOpnd_wf s o out.1 h

/-- The memory of the reset state is in canonical form. -/
theorem State.reset_mem_wf : Memory.wf State.reset.mem = true := rfl

end Sys2Proof.Machine
end

