-- ==== Sys2Proof/Laws/Views.lean ====
section
/-! SUPPORT. The laws of the views: bytes and words (10_state.md R21, R22), F and its flags (R25, R26). -/

namespace Sys2Proof

@[simp] theorem toNat_joinBytes (hi lo : Byte) : (joinBytes hi lo).toNat = 256 * hi.toNat + lo.toNat := by
  simp only [joinBytes, BitVec.toNat_append, Nat.shiftLeft_eq]
  rw [Nat.mul_comm, ← Nat.two_pow_add_eq_or_of_lt lo.isLt]

theorem toNat_hiByte (v : Word) : (hiByte v).toNat = v.toNat / 256 := by
  have := v.isLt
  simp only [hiByte, BitVec.extractLsb'_toNat, Nat.shiftRight_eq_div_pow]
  omega

theorem toNat_loByte (v : Word) : (loByte v).toNat = v.toNat % 256 := by
  simp [loByte, BitVec.extractLsb'_toNat]

@[simp] theorem hiByte_joinBytes (hi lo : Byte) : hiByte (joinBytes hi lo) = hi := by
  apply BitVec.eq_of_toNat_eq
  have := lo.isLt
  rw [toNat_hiByte, toNat_joinBytes]
  omega

@[simp] theorem loByte_joinBytes (hi lo : Byte) : loByte (joinBytes hi lo) = lo := by
  apply BitVec.eq_of_toNat_eq
  have := lo.isLt
  rw [toNat_loByte, toNat_joinBytes]
  omega

/-- A word is its two bytes (R21). -/
@[simp] theorem joinBytes_hi_lo (v : Word) : joinBytes (hiByte v) (loByte v) = v := by
  apply BitVec.eq_of_toNat_eq
  rw [toNat_joinBytes, toNat_hiByte, toNat_loByte]
  omega

end Sys2Proof

namespace Sys2Proof.Machine

open Sys2Proof

/-- The four flags are what F's byte holds in bits 7..4 (R25). -/
@[simp] theorem Flags.ofByte_toByte (f : Flags) : Flags.ofByte f.toByte = f := by
  obtain ⟨z, n, h, c⟩ := f
  revert z n h c
  decide

/-- F's byte is the popped byte with bits 3:0 dropped (R175). -/
theorem Flags.toByte_ofByte (v : Byte) : (Flags.ofByte v).toByte = v &&& 0xF0 := by
  revert v
  decide

/-- Bits 3:0 of F are 0 in every state (R26). -/
theorem Flags.toByte_low (f : Flags) : f.toByte &&& 0x0F = 0 := by
  obtain ⟨z, n, h, c⟩ := f
  revert z n h c
  decide

@[simp] theorem State.setHL_hl (s : State) (v : Word) : (s.setHL v).hl = v := joinBytes_hi_lo v
@[simp] theorem State.setBC_bc (s : State) (v : Word) : (s.setBC v).bc = v := joinBytes_hi_lo v
@[simp] theorem State.setDE_de (s : State) (v : Word) : (s.setDE v).de = v := joinBytes_hi_lo v

/-- Reading a pair after writing it (R22). -/
@[simp] theorem State.setPair_pair (s : State) (p : Pair) (v : Word) : (s.setPair p v).pair p = v := by
  cases p
  · exact joinBytes_hi_lo v
  · exact joinBytes_hi_lo v
  · exact joinBytes_hi_lo v
  · rfl

/-- Reading a stack pair after writing it: AF loses bits 3:0 (R22, R175). -/
theorem State.setStackPair_stackPair (s : State) (p : StackPair) (v : Word) :
    (s.setStackPair p v).stackPair p = if p = .af then joinBytes (hiByte v) (loByte v &&& 0xF0) else v := by
  cases p
  · exact joinBytes_hi_lo v
  · exact joinBytes_hi_lo v
  · exact joinBytes_hi_lo v
  · simp [State.setStackPair, State.stackPair, State.setAF, State.af, State.f, Flags.toByte_ofByte]

/-- A state's own AF survives a push and a pop: F's low bits are already 0 (R26, R173). -/
theorem State.f_low (s : State) : s.f &&& 0xF0 = s.f := by
  rw [State.f, ← Flags.toByte_ofByte, Flags.ofByte_toByte]

end Sys2Proof.Machine
end

