-- ==== Sys2Proof/Laws/Control.lean ====
section
/-! SUPPORT. The laws of the stack and of the conditional control operations (20_memory.md R71, R72; 45_control.md R230 to
R241): what a word write, a push and a pop leave, and everything a conditional jump, call or return can do. -/

namespace Sys2Proof.Machine

open Sys2Proof

/-! ## Words and the stack -/

/-- A word reads back as it was written, at the top of memory too (R64, R65, R66). -/
@[simp] theorem State.read16_write16 (s : State) (x v : Word) : (s.write16 x v).read16 x = v := by
  have h : x ≠ x + 1 := by bv_omega
  rw [State.read16, State.read8_write16, State.read8_write16, if_pos rfl, if_neg h, if_pos rfl, joinBytes_hi_lo]

/-- The word a push leaves at the new SP (R71). -/
theorem State.read16_push16 (s : State) (v : Word) : (s.push16 v).read16 (s.sp - 2) = v :=
  State.read16_write16 _ _ v

/-- A pop right after a push gives the pushed word and the old SP (R71, R72). -/
theorem State.pop16_push16 (s : State) (v : Word) :
    (s.push16 v).pop16 = (v, { s.push16 v with sp := s.sp }) := by
  have h : s.sp - 2 + 2 = s.sp := by bv_omega
  have hv : (s.push16 v).read16 (s.push16 v).sp = v := State.read16_push16 s v
  rw [State.pop16, hv, State.push16_sp, h]

/-! ## Conditional operations -/

/-- Everything a conditional jump can do (R232). -/
theorem jumpCond_cases {cond : Cond} {nn : Word} {s t : State} (h : jumpCond cond nn s = .next t) :
    (condHolds cond s.flags = true ∧ t = { s with pc := nn }.charge 4) ∨
    (condHolds cond s.flags = false ∧ t = s.charge 3) := by
  unfold jumpCond at h
  split at h <;> cases h
  · exact .inl ⟨‹_›, rfl⟩
  · exact .inr ⟨Bool.eq_false_of_not_eq_true ‹_›, rfl⟩

/-- Everything a conditional relative jump can do (R235). -/
theorem jumpRelCond_cases {cond : Cond} {e : Byte} {s t : State} (h : jumpRelCond cond e s = .next t) :
    (condHolds cond s.flags = true ∧ t = { s with pc := s.pc + sext8 e }.charge 3) ∨
    (condHolds cond s.flags = false ∧ t = s.charge 2) := by
  unfold jumpRelCond at h
  split at h <;> cases h
  · exact .inl ⟨‹_›, rfl⟩
  · exact .inr ⟨Bool.eq_false_of_not_eq_true ‹_›, rfl⟩

/-- Everything a conditional call can do (R237). -/
theorem callCond_cases {cond : Cond} {nn : Word} {s t : State} (h : callCond cond nn s = .next t) :
    (condHolds cond s.flags = true ∧ t = { s.push16 s.pc with pc := nn }.charge 6) ∨
    (condHolds cond s.flags = false ∧ t = s.charge 3) := by
  unfold callCond at h
  split at h <;> cases h
  · exact .inl ⟨‹_›, rfl⟩
  · exact .inr ⟨Bool.eq_false_of_not_eq_true ‹_›, rfl⟩

/-- Everything a conditional return can do (R239). -/
theorem retCond_cases {cond : Cond} {s t : State} (h : retCond cond s = .next t) :
    (condHolds cond s.flags = true ∧ t = { s with pc := s.read16 s.sp, sp := s.sp + 2 }.charge 5) ∨
    (condHolds cond s.flags = false ∧ t = s.charge 2) := by
  unfold retCond at h
  split at h <;> cases h
  · exact .inl ⟨‹_›, rfl⟩
  · exact .inr ⟨Bool.eq_false_of_not_eq_true ‹_›, rfl⟩

end Sys2Proof.Machine
end

