-- ==== Sys2Proof/Laws/Exec.lean ====
section
/-! SUPPORT. Dispatch by family: the meaning of each row of an instruction family is that family's shared operation, and a
property of all instructions follows from one case per family. -/

namespace Sys2Proof.Machine

open Sys2Proof

@[simp] theorem exec_mkLdRegReg (dst : Reg8) (r : Reg8) (s : State) : exec (.mkLdRegReg dst r) s = ldRegReg dst r s := by
  cases dst <;> cases r <;> rfl

@[simp] theorem exec_mkLdRegAtHL (r : Reg8) (s : State) : exec (.mkLdRegAtHL r) s = ldRegAtHL r s := by
  cases r <;> rfl

@[simp] theorem exec_mkLdAtHLReg (r : Reg8) (s : State) : exec (.mkLdAtHLReg r) s = ldAtHLReg r s := by
  cases r <;> rfl

@[simp] theorem exec_mkLdRegImm (r : Reg8) (n : Byte) (s : State) : exec (.mkLdRegImm r n) s = ldRegImm r n s := by
  cases r <;> rfl

@[simp] theorem exec_mkAlu (op : AluOp) (src : Src8) (s : State) : exec (.mkAlu op src) s = aluOp op src s := by
  cases op <;> rcases src with (_ | _ | _ | _ | _ | _ | _) | _ | n <;> rfl

@[simp] theorem exec_mkInc8 (o : Opnd8) (s : State) : exec (.mkInc8 o) s = incOpnd o s := by
  rcases o with (_ | _ | _ | _ | _ | _ | _) | _ <;> rfl

@[simp] theorem exec_mkDec8 (o : Opnd8) (s : State) : exec (.mkDec8 o) s = decOpnd o s := by
  rcases o with (_ | _ | _ | _ | _ | _ | _) | _ <;> rfl

@[simp] theorem exec_mkLdPairImm (p : Pair) (nn : Word) (s : State) : exec (.mkLdPairImm p nn) s = ldPairImm p nn s := by
  cases p <;> rfl

@[simp] theorem exec_mkIncPair (p : Pair) (s : State) : exec (.mkIncPair p) s = incPair p s := by
  cases p <;> rfl

@[simp] theorem exec_mkDecPair (p : Pair) (s : State) : exec (.mkDecPair p) s = decPair p s := by
  cases p <;> rfl

@[simp] theorem exec_mkAddHL (p : Pair) (s : State) : exec (.mkAddHL p) s = addHL p s := by
  cases p <;> rfl

@[simp] theorem exec_mkPush (p : StackPair) (s : State) : exec (.mkPush p) s = pushPair p s := by
  cases p <;> rfl

@[simp] theorem exec_mkPop (p : StackPair) (s : State) : exec (.mkPop p) s = popPair p s := by
  cases p <;> rfl

@[simp] theorem exec_mkJpCond (cond : Cond) (nn : Word) (s : State) : exec (.mkJpCond cond nn) s = jumpCond cond nn s := by
  cases cond <;> rfl

@[simp] theorem exec_mkJrCond (cond : Cond) (n : Byte) (s : State) : exec (.mkJrCond cond n) s = jumpRelCond cond n s := by
  cases cond <;> rfl

@[simp] theorem exec_mkCallCond (cond : Cond) (nn : Word) (s : State) : exec (.mkCallCond cond nn) s = callCond cond nn s := by
  cases cond <;> rfl

@[simp] theorem exec_mkRetCond (cond : Cond) (s : State) : exec (.mkRetCond cond) s = retCond cond s := by
  cases cond <;> rfl

@[simp] theorem exec_mkRst (y : Fin 8) (s : State) : exec (.mkRst y) s = restart y s := by
  fin_cases y <;> rfl

@[simp] theorem exec_mkRot (op : RotOp) (o : Opnd8) (s : State) : exec (.mkRot op o) s = rotOp op o s := by
  cases op <;> rcases o with (_ | _ | _ | _ | _ | _ | _) | _ <;> rfl

@[simp] theorem exec_mkBit (y : Fin 8) (o : Opnd8) (s : State) : exec (.mkBit y o) s = bitOp y o s := by
  fin_cases y <;> rcases o with (_ | _ | _ | _ | _ | _ | _) | _ <;> rfl

@[simp] theorem exec_mkRes (y : Fin 8) (o : Opnd8) (s : State) : exec (.mkRes y o) s = resOp y o s := by
  fin_cases y <;> rcases o with (_ | _ | _ | _ | _ | _ | _) | _ <;> rfl

@[simp] theorem exec_mkSet (y : Fin 8) (o : Opnd8) (s : State) : exec (.mkSet y o) s = setOp y o s := by
  fin_cases y <;> rcases o with (_ | _ | _ | _ | _ | _ | _) | _ <;> rfl

/-- Case analysis by family: a property of all instructions from one case per instruction family of files 42 to 47. -/
theorem instr_by_family {motive : Instr → Prop}
    (ldRegReg : ∀ (dst : Reg8) (r : Reg8), motive (.mkLdRegReg dst r))
    (ldRegAtHL : ∀ (r : Reg8), motive (.mkLdRegAtHL r))
    (ldAtHLReg : ∀ (r : Reg8), motive (.mkLdAtHLReg r))
    (ldRegImm : ∀ (r : Reg8) (n : Byte), motive (.mkLdRegImm r n))
    (alu : ∀ (op : AluOp) (src : Src8), motive (.mkAlu op src))
    (inc8 : ∀ (o : Opnd8), motive (.mkInc8 o))
    (dec8 : ∀ (o : Opnd8), motive (.mkDec8 o))
    (ldPairImm : ∀ (p : Pair) (nn : Word), motive (.mkLdPairImm p nn))
    (incPair : ∀ (p : Pair), motive (.mkIncPair p))
    (decPair : ∀ (p : Pair), motive (.mkDecPair p))
    (addHL : ∀ (p : Pair), motive (.mkAddHL p))
    (push : ∀ (p : StackPair), motive (.mkPush p))
    (pop : ∀ (p : StackPair), motive (.mkPop p))
    (jpCond : ∀ (cond : Cond) (nn : Word), motive (.mkJpCond cond nn))
    (jrCond : ∀ (cond : Cond) (n : Byte), motive (.mkJrCond cond n))
    (callCond : ∀ (cond : Cond) (nn : Word), motive (.mkCallCond cond nn))
    (retCond : ∀ (cond : Cond), motive (.mkRetCond cond))
    (rst : ∀ (y : Fin 8), motive (.mkRst y))
    (rot : ∀ (op : RotOp) (o : Opnd8), motive (.mkRot op o))
    (bit : ∀ (y : Fin 8) (o : Opnd8), motive (.mkBit y o))
    (res : ∀ (y : Fin 8) (o : Opnd8), motive (.mkRes y o))
    (set : ∀ (y : Fin 8) (o : Opnd8), motive (.mkSet y o))
    (nop : motive .nop)
    (halt : motive .halt)
    (stop : ∀ n : Byte, motive (.stop n))
    (di : motive .di)
    (ei : motive .ei)
    (rlca : motive .rlca)
    (rrca : motive .rrca)
    (rla : motive .rla)
    (rra : motive .rra)
    (daa : motive .daa)
    (cpl : motive .cpl)
    (scf : motive .scf)
    (ccf : motive .ccf)
    (ldAtNN_SP : ∀ nn : Word, motive (.ldAtNN_SP nn))
    (ldSP_HL : motive .ldSP_HL)
    (ldHL_SPe : ∀ e : Byte, motive (.ldHL_SPe e))
    (addSP_e : ∀ e : Byte, motive (.addSP_e e))
    (ldAtBC_A : motive .ldAtBC_A)
    (ldAtDE_A : motive .ldAtDE_A)
    (ldAtHLinc_A : motive .ldAtHLinc_A)
    (ldAtHLdec_A : motive .ldAtHLdec_A)
    (ldA_atBC : motive .ldA_atBC)
    (ldA_atDE : motive .ldA_atDE)
    (ldA_atHLinc : motive .ldA_atHLinc)
    (ldA_atHLdec : motive .ldA_atHLdec)
    (ldhAtN_A : ∀ n : Byte, motive (.ldhAtN_A n))
    (ldhA_atN : ∀ n : Byte, motive (.ldhA_atN n))
    (ldAtC_A : motive .ldAtC_A)
    (ldA_atC : motive .ldA_atC)
    (ldAtNN_A : ∀ nn : Word, motive (.ldAtNN_A nn))
    (ldA_atNN : ∀ nn : Word, motive (.ldA_atNN nn))
    (jp : ∀ nn : Word, motive (.jp nn))
    (jpHL : motive .jpHL)
    (ldAtHL_n : ∀ n : Byte, motive (.ldAtHL_n n))
    (jr : ∀ e : Byte, motive (.jr e))
    (call : ∀ nn : Word, motive (.call nn))
    (ret : motive .ret)
    (reti : motive .reti)
    (prefixCB : motive .prefixCB)
    (undefinedOpcode : ∀ i ∈ Instr.undefinedOpcodes, motive i)
    (i : Instr) : motive i := by
  cases i with
  | nop => exact nop
  | ldBC_nn nn => exact ldPairImm .bc nn
  | ldAtBC_A => exact ldAtBC_A
  | incBC => exact incPair .bc
  | incB => exact inc8 (.reg .b)
  | decB => exact dec8 (.reg .b)
  | ldB_n n => exact ldRegImm .b n
  | rlca => exact rlca
  | ldAtNN_SP nn => exact ldAtNN_SP nn
  | addHL_BC => exact addHL .bc
  | ldA_atBC => exact ldA_atBC
  | decBC => exact decPair .bc
  | incC => exact inc8 (.reg .c)
  | decC => exact dec8 (.reg .c)
  | ldC_n n => exact ldRegImm .c n
  | rrca => exact rrca
  | stop n => exact stop n
  | ldDE_nn nn => exact ldPairImm .de nn
  | ldAtDE_A => exact ldAtDE_A
  | incDE => exact incPair .de
  | incD => exact inc8 (.reg .d)
  | decD => exact dec8 (.reg .d)
  | ldD_n n => exact ldRegImm .d n
  | rla => exact rla
  | jr e => exact jr e
  | addHL_DE => exact addHL .de
  | ldA_atDE => exact ldA_atDE
  | decDE => exact decPair .de
  | incE => exact inc8 (.reg .e)
  | decE => exact dec8 (.reg .e)
  | ldE_n n => exact ldRegImm .e n
  | rra => exact rra
  | jrNZ e => exact jrCond .nz e
  | ldHL_nn nn => exact ldPairImm .hl nn
  | ldAtHLinc_A => exact ldAtHLinc_A
  | incHL => exact incPair .hl
  | incH => exact inc8 (.reg .h)
  | decH => exact dec8 (.reg .h)
  | ldH_n n => exact ldRegImm .h n
  | daa => exact daa
  | jrZ e => exact jrCond .z e
  | addHL_HL => exact addHL .hl
  | ldA_atHLinc => exact ldA_atHLinc
  | decHL => exact decPair .hl
  | incL => exact inc8 (.reg .l)
  | decL => exact dec8 (.reg .l)
  | ldL_n n => exact ldRegImm .l n
  | cpl => exact cpl
  | jrNC e => exact jrCond .nc e
  | ldSP_nn nn => exact ldPairImm .sp nn
  | ldAtHLdec_A => exact ldAtHLdec_A
  | incSP => exact incPair .sp
  | incAtHL => exact inc8 .atHL
  | decAtHL => exact dec8 .atHL
  | ldAtHL_n n => exact ldAtHL_n n
  | scf => exact scf
  | jrC e => exact jrCond .c e
  | addHL_SP => exact addHL .sp
  | ldA_atHLdec => exact ldA_atHLdec
  | decSP => exact decPair .sp
  | incA => exact inc8 (.reg .a)
  | decA => exact dec8 (.reg .a)
  | ldA_n n => exact ldRegImm .a n
  | ccf => exact ccf
  | ldB_B => exact ldRegReg .b .b
  | ldB_C => exact ldRegReg .b .c
  | ldB_D => exact ldRegReg .b .d
  | ldB_E => exact ldRegReg .b .e
  | ldB_H => exact ldRegReg .b .h
  | ldB_L => exact ldRegReg .b .l
  | ldB_atHL => exact ldRegAtHL .b
  | ldB_A => exact ldRegReg .b .a
  | ldC_B => exact ldRegReg .c .b
  | ldC_C => exact ldRegReg .c .c
  | ldC_D => exact ldRegReg .c .d
  | ldC_E => exact ldRegReg .c .e
  | ldC_H => exact ldRegReg .c .h
  | ldC_L => exact ldRegReg .c .l
  | ldC_atHL => exact ldRegAtHL .c
  | ldC_A => exact ldRegReg .c .a
  | ldD_B => exact ldRegReg .d .b
  | ldD_C => exact ldRegReg .d .c
  | ldD_D => exact ldRegReg .d .d
  | ldD_E => exact ldRegReg .d .e
  | ldD_H => exact ldRegReg .d .h
  | ldD_L => exact ldRegReg .d .l
  | ldD_atHL => exact ldRegAtHL .d
  | ldD_A => exact ldRegReg .d .a
  | ldE_B => exact ldRegReg .e .b
  | ldE_C => exact ldRegReg .e .c
  | ldE_D => exact ldRegReg .e .d
  | ldE_E => exact ldRegReg .e .e
  | ldE_H => exact ldRegReg .e .h
  | ldE_L => exact ldRegReg .e .l
  | ldE_atHL => exact ldRegAtHL .e
  | ldE_A => exact ldRegReg .e .a
  | ldH_B => exact ldRegReg .h .b
  | ldH_C => exact ldRegReg .h .c
  | ldH_D => exact ldRegReg .h .d
  | ldH_E => exact ldRegReg .h .e
  | ldH_H => exact ldRegReg .h .h
  | ldH_L => exact ldRegReg .h .l
  | ldH_atHL => exact ldRegAtHL .h
  | ldH_A => exact ldRegReg .h .a
  | ldL_B => exact ldRegReg .l .b
  | ldL_C => exact ldRegReg .l .c
  | ldL_D => exact ldRegReg .l .d
  | ldL_E => exact ldRegReg .l .e
  | ldL_H => exact ldRegReg .l .h
  | ldL_L => exact ldRegReg .l .l
  | ldL_atHL => exact ldRegAtHL .l
  | ldL_A => exact ldRegReg .l .a
  | ldAtHL_B => exact ldAtHLReg .b
  | ldAtHL_C => exact ldAtHLReg .c
  | ldAtHL_D => exact ldAtHLReg .d
  | ldAtHL_E => exact ldAtHLReg .e
  | ldAtHL_H => exact ldAtHLReg .h
  | ldAtHL_L => exact ldAtHLReg .l
  | halt => exact halt
  | ldAtHL_A => exact ldAtHLReg .a
  | ldA_B => exact ldRegReg .a .b
  | ldA_C => exact ldRegReg .a .c
  | ldA_D => exact ldRegReg .a .d
  | ldA_E => exact ldRegReg .a .e
  | ldA_H => exact ldRegReg .a .h
  | ldA_L => exact ldRegReg .a .l
  | ldA_atHL => exact ldRegAtHL .a
  | ldA_A => exact ldRegReg .a .a
  | addA_B => exact alu .add (.reg .b)
  | addA_C => exact alu .add (.reg .c)
  | addA_D => exact alu .add (.reg .d)
  | addA_E => exact alu .add (.reg .e)
  | addA_H => exact alu .add (.reg .h)
  | addA_L => exact alu .add (.reg .l)
  | addA_atHL => exact alu .add .atHL
  | addA_A => exact alu .add (.reg .a)
  | adcA_B => exact alu .adc (.reg .b)
  | adcA_C => exact alu .adc (.reg .c)
  | adcA_D => exact alu .adc (.reg .d)
  | adcA_E => exact alu .adc (.reg .e)
  | adcA_H => exact alu .adc (.reg .h)
  | adcA_L => exact alu .adc (.reg .l)
  | adcA_atHL => exact alu .adc .atHL
  | adcA_A => exact alu .adc (.reg .a)
  | subB => exact alu .sub (.reg .b)
  | subC => exact alu .sub (.reg .c)
  | subD => exact alu .sub (.reg .d)
  | subE => exact alu .sub (.reg .e)
  | subH => exact alu .sub (.reg .h)
  | subL => exact alu .sub (.reg .l)
  | subAtHL => exact alu .sub .atHL
  | subA => exact alu .sub (.reg .a)
  | sbcA_B => exact alu .sbc (.reg .b)
  | sbcA_C => exact alu .sbc (.reg .c)
  | sbcA_D => exact alu .sbc (.reg .d)
  | sbcA_E => exact alu .sbc (.reg .e)
  | sbcA_H => exact alu .sbc (.reg .h)
  | sbcA_L => exact alu .sbc (.reg .l)
  | sbcA_atHL => exact alu .sbc .atHL
  | sbcA_A => exact alu .sbc (.reg .a)
  | andB => exact alu .and (.reg .b)
  | andC => exact alu .and (.reg .c)
  | andD => exact alu .and (.reg .d)
  | andE => exact alu .and (.reg .e)
  | andH => exact alu .and (.reg .h)
  | andL => exact alu .and (.reg .l)
  | andAtHL => exact alu .and .atHL
  | andA => exact alu .and (.reg .a)
  | xorB => exact alu .xor (.reg .b)
  | xorC => exact alu .xor (.reg .c)
  | xorD => exact alu .xor (.reg .d)
  | xorE => exact alu .xor (.reg .e)
  | xorH => exact alu .xor (.reg .h)
  | xorL => exact alu .xor (.reg .l)
  | xorAtHL => exact alu .xor .atHL
  | xorA => exact alu .xor (.reg .a)
  | orB => exact alu .or (.reg .b)
  | orC => exact alu .or (.reg .c)
  | orD => exact alu .or (.reg .d)
  | orE => exact alu .or (.reg .e)
  | orH => exact alu .or (.reg .h)
  | orL => exact alu .or (.reg .l)
  | orAtHL => exact alu .or .atHL
  | orA => exact alu .or (.reg .a)
  | cpB => exact alu .cp (.reg .b)
  | cpC => exact alu .cp (.reg .c)
  | cpD => exact alu .cp (.reg .d)
  | cpE => exact alu .cp (.reg .e)
  | cpH => exact alu .cp (.reg .h)
  | cpL => exact alu .cp (.reg .l)
  | cpAtHL => exact alu .cp .atHL
  | cpA => exact alu .cp (.reg .a)
  | retNZ => exact retCond .nz
  | popBC => exact pop .bc
  | jpNZ nn => exact jpCond .nz nn
  | jp nn => exact jp nn
  | callNZ nn => exact callCond .nz nn
  | pushBC => exact push .bc
  | addA_n n => exact alu .add (.imm n)
  | rst00 => exact rst 0
  | retZ => exact retCond .z
  | ret => exact ret
  | jpZ nn => exact jpCond .z nn
  | prefixCB => exact prefixCB
  | callZ nn => exact callCond .z nn
  | call nn => exact call nn
  | adcA_n n => exact alu .adc (.imm n)
  | rst08 => exact rst 1
  | retNC => exact retCond .nc
  | popDE => exact pop .de
  | jpNC nn => exact jpCond .nc nn
  | callNC nn => exact callCond .nc nn
  | pushDE => exact push .de
  | sub_n n => exact alu .sub (.imm n)
  | rst10 => exact rst 2
  | retC => exact retCond .c
  | reti => exact reti
  | jpC nn => exact jpCond .c nn
  | callC nn => exact callCond .c nn
  | sbcA_n n => exact alu .sbc (.imm n)
  | rst18 => exact rst 3
  | ldhAtN_A n => exact ldhAtN_A n
  | popHL => exact pop .hl
  | ldAtC_A => exact ldAtC_A
  | pushHL => exact push .hl
  | and_n n => exact alu .and (.imm n)
  | rst20 => exact rst 4
  | addSP_e e => exact addSP_e e
  | jpHL => exact jpHL
  | ldAtNN_A nn => exact ldAtNN_A nn
  | xor_n n => exact alu .xor (.imm n)
  | rst28 => exact rst 5
  | ldhA_atN n => exact ldhA_atN n
  | popAF => exact pop .af
  | ldA_atC => exact ldA_atC
  | di => exact di
  | pushAF => exact push .af
  | or_n n => exact alu .or (.imm n)
  | rst30 => exact rst 6
  | ldHL_SPe e => exact ldHL_SPe e
  | ldSP_HL => exact ldSP_HL
  | ldA_atNN nn => exact ldA_atNN nn
  | ei => exact ei
  | cp_n n => exact alu .cp (.imm n)
  | rst38 => exact rst 7
  | undefinedD3 => exact undefinedOpcode _ (by decide)
  | undefinedDB => exact undefinedOpcode _ (by decide)
  | undefinedDD => exact undefinedOpcode _ (by decide)
  | undefinedE3 => exact undefinedOpcode _ (by decide)
  | undefinedE4 => exact undefinedOpcode _ (by decide)
  | undefinedEB => exact undefinedOpcode _ (by decide)
  | undefinedEC => exact undefinedOpcode _ (by decide)
  | undefinedED => exact undefinedOpcode _ (by decide)
  | undefinedF4 => exact undefinedOpcode _ (by decide)
  | undefinedFC => exact undefinedOpcode _ (by decide)
  | undefinedFD => exact undefinedOpcode _ (by decide)
  | rlcB => exact rot .rlc (.reg .b)
  | rlcC => exact rot .rlc (.reg .c)
  | rlcD => exact rot .rlc (.reg .d)
  | rlcE => exact rot .rlc (.reg .e)
  | rlcH => exact rot .rlc (.reg .h)
  | rlcL => exact rot .rlc (.reg .l)
  | rlcAtHL => exact rot .rlc .atHL
  | rlcA => exact rot .rlc (.reg .a)
  | rrcB => exact rot .rrc (.reg .b)
  | rrcC => exact rot .rrc (.reg .c)
  | rrcD => exact rot .rrc (.reg .d)
  | rrcE => exact rot .rrc (.reg .e)
  | rrcH => exact rot .rrc (.reg .h)
  | rrcL => exact rot .rrc (.reg .l)
  | rrcAtHL => exact rot .rrc .atHL
  | rrcA => exact rot .rrc (.reg .a)
  | rlB => exact rot .rl (.reg .b)
  | rlC => exact rot .rl (.reg .c)
  | rlD => exact rot .rl (.reg .d)
  | rlE => exact rot .rl (.reg .e)
  | rlH => exact rot .rl (.reg .h)
  | rlL => exact rot .rl (.reg .l)
  | rlAtHL => exact rot .rl .atHL
  | rlA => exact rot .rl (.reg .a)
  | rrB => exact rot .rr (.reg .b)
  | rrC => exact rot .rr (.reg .c)
  | rrD => exact rot .rr (.reg .d)
  | rrE => exact rot .rr (.reg .e)
  | rrH => exact rot .rr (.reg .h)
  | rrL => exact rot .rr (.reg .l)
  | rrAtHL => exact rot .rr .atHL
  | rrA => exact rot .rr (.reg .a)
  | slaB => exact rot .sla (.reg .b)
  | slaC => exact rot .sla (.reg .c)
  | slaD => exact rot .sla (.reg .d)
  | slaE => exact rot .sla (.reg .e)
  | slaH => exact rot .sla (.reg .h)
  | slaL => exact rot .sla (.reg .l)
  | slaAtHL => exact rot .sla .atHL
  | slaA => exact rot .sla (.reg .a)
  | sraB => exact rot .sra (.reg .b)
  | sraC => exact rot .sra (.reg .c)
  | sraD => exact rot .sra (.reg .d)
  | sraE => exact rot .sra (.reg .e)
  | sraH => exact rot .sra (.reg .h)
  | sraL => exact rot .sra (.reg .l)
  | sraAtHL => exact rot .sra .atHL
  | sraA => exact rot .sra (.reg .a)
  | swapB => exact rot .swap (.reg .b)
  | swapC => exact rot .swap (.reg .c)
  | swapD => exact rot .swap (.reg .d)
  | swapE => exact rot .swap (.reg .e)
  | swapH => exact rot .swap (.reg .h)
  | swapL => exact rot .swap (.reg .l)
  | swapAtHL => exact rot .swap .atHL
  | swapA => exact rot .swap (.reg .a)
  | srlB => exact rot .srl (.reg .b)
  | srlC => exact rot .srl (.reg .c)
  | srlD => exact rot .srl (.reg .d)
  | srlE => exact rot .srl (.reg .e)
  | srlH => exact rot .srl (.reg .h)
  | srlL => exact rot .srl (.reg .l)
  | srlAtHL => exact rot .srl .atHL
  | srlA => exact rot .srl (.reg .a)
  | bit0_B => exact bit 0 (.reg .b)
  | bit0_C => exact bit 0 (.reg .c)
  | bit0_D => exact bit 0 (.reg .d)
  | bit0_E => exact bit 0 (.reg .e)
  | bit0_H => exact bit 0 (.reg .h)
  | bit0_L => exact bit 0 (.reg .l)
  | bit0_atHL => exact bit 0 .atHL
  | bit0_A => exact bit 0 (.reg .a)
  | bit1_B => exact bit 1 (.reg .b)
  | bit1_C => exact bit 1 (.reg .c)
  | bit1_D => exact bit 1 (.reg .d)
  | bit1_E => exact bit 1 (.reg .e)
  | bit1_H => exact bit 1 (.reg .h)
  | bit1_L => exact bit 1 (.reg .l)
  | bit1_atHL => exact bit 1 .atHL
  | bit1_A => exact bit 1 (.reg .a)
  | bit2_B => exact bit 2 (.reg .b)
  | bit2_C => exact bit 2 (.reg .c)
  | bit2_D => exact bit 2 (.reg .d)
  | bit2_E => exact bit 2 (.reg .e)
  | bit2_H => exact bit 2 (.reg .h)
  | bit2_L => exact bit 2 (.reg .l)
  | bit2_atHL => exact bit 2 .atHL
  | bit2_A => exact bit 2 (.reg .a)
  | bit3_B => exact bit 3 (.reg .b)
  | bit3_C => exact bit 3 (.reg .c)
  | bit3_D => exact bit 3 (.reg .d)
  | bit3_E => exact bit 3 (.reg .e)
  | bit3_H => exact bit 3 (.reg .h)
  | bit3_L => exact bit 3 (.reg .l)
  | bit3_atHL => exact bit 3 .atHL
  | bit3_A => exact bit 3 (.reg .a)
  | bit4_B => exact bit 4 (.reg .b)
  | bit4_C => exact bit 4 (.reg .c)
  | bit4_D => exact bit 4 (.reg .d)
  | bit4_E => exact bit 4 (.reg .e)
  | bit4_H => exact bit 4 (.reg .h)
  | bit4_L => exact bit 4 (.reg .l)
  | bit4_atHL => exact bit 4 .atHL
  | bit4_A => exact bit 4 (.reg .a)
  | bit5_B => exact bit 5 (.reg .b)
  | bit5_C => exact bit 5 (.reg .c)
  | bit5_D => exact bit 5 (.reg .d)
  | bit5_E => exact bit 5 (.reg .e)
  | bit5_H => exact bit 5 (.reg .h)
  | bit5_L => exact bit 5 (.reg .l)
  | bit5_atHL => exact bit 5 .atHL
  | bit5_A => exact bit 5 (.reg .a)
  | bit6_B => exact bit 6 (.reg .b)
  | bit6_C => exact bit 6 (.reg .c)
  | bit6_D => exact bit 6 (.reg .d)
  | bit6_E => exact bit 6 (.reg .e)
  | bit6_H => exact bit 6 (.reg .h)
  | bit6_L => exact bit 6 (.reg .l)
  | bit6_atHL => exact bit 6 .atHL
  | bit6_A => exact bit 6 (.reg .a)
  | bit7_B => exact bit 7 (.reg .b)
  | bit7_C => exact bit 7 (.reg .c)
  | bit7_D => exact bit 7 (.reg .d)
  | bit7_E => exact bit 7 (.reg .e)
  | bit7_H => exact bit 7 (.reg .h)
  | bit7_L => exact bit 7 (.reg .l)
  | bit7_atHL => exact bit 7 .atHL
  | bit7_A => exact bit 7 (.reg .a)
  | res0_B => exact res 0 (.reg .b)
  | res0_C => exact res 0 (.reg .c)
  | res0_D => exact res 0 (.reg .d)
  | res0_E => exact res 0 (.reg .e)
  | res0_H => exact res 0 (.reg .h)
  | res0_L => exact res 0 (.reg .l)
  | res0_atHL => exact res 0 .atHL
  | res0_A => exact res 0 (.reg .a)
  | res1_B => exact res 1 (.reg .b)
  | res1_C => exact res 1 (.reg .c)
  | res1_D => exact res 1 (.reg .d)
  | res1_E => exact res 1 (.reg .e)
  | res1_H => exact res 1 (.reg .h)
  | res1_L => exact res 1 (.reg .l)
  | res1_atHL => exact res 1 .atHL
  | res1_A => exact res 1 (.reg .a)
  | res2_B => exact res 2 (.reg .b)
  | res2_C => exact res 2 (.reg .c)
  | res2_D => exact res 2 (.reg .d)
  | res2_E => exact res 2 (.reg .e)
  | res2_H => exact res 2 (.reg .h)
  | res2_L => exact res 2 (.reg .l)
  | res2_atHL => exact res 2 .atHL
  | res2_A => exact res 2 (.reg .a)
  | res3_B => exact res 3 (.reg .b)
  | res3_C => exact res 3 (.reg .c)
  | res3_D => exact res 3 (.reg .d)
  | res3_E => exact res 3 (.reg .e)
  | res3_H => exact res 3 (.reg .h)
  | res3_L => exact res 3 (.reg .l)
  | res3_atHL => exact res 3 .atHL
  | res3_A => exact res 3 (.reg .a)
  | res4_B => exact res 4 (.reg .b)
  | res4_C => exact res 4 (.reg .c)
  | res4_D => exact res 4 (.reg .d)
  | res4_E => exact res 4 (.reg .e)
  | res4_H => exact res 4 (.reg .h)
  | res4_L => exact res 4 (.reg .l)
  | res4_atHL => exact res 4 .atHL
  | res4_A => exact res 4 (.reg .a)
  | res5_B => exact res 5 (.reg .b)
  | res5_C => exact res 5 (.reg .c)
  | res5_D => exact res 5 (.reg .d)
  | res5_E => exact res 5 (.reg .e)
  | res5_H => exact res 5 (.reg .h)
  | res5_L => exact res 5 (.reg .l)
  | res5_atHL => exact res 5 .atHL
  | res5_A => exact res 5 (.reg .a)
  | res6_B => exact res 6 (.reg .b)
  | res6_C => exact res 6 (.reg .c)
  | res6_D => exact res 6 (.reg .d)
  | res6_E => exact res 6 (.reg .e)
  | res6_H => exact res 6 (.reg .h)
  | res6_L => exact res 6 (.reg .l)
  | res6_atHL => exact res 6 .atHL
  | res6_A => exact res 6 (.reg .a)
  | res7_B => exact res 7 (.reg .b)
  | res7_C => exact res 7 (.reg .c)
  | res7_D => exact res 7 (.reg .d)
  | res7_E => exact res 7 (.reg .e)
  | res7_H => exact res 7 (.reg .h)
  | res7_L => exact res 7 (.reg .l)
  | res7_atHL => exact res 7 .atHL
  | res7_A => exact res 7 (.reg .a)
  | set0_B => exact set 0 (.reg .b)
  | set0_C => exact set 0 (.reg .c)
  | set0_D => exact set 0 (.reg .d)
  | set0_E => exact set 0 (.reg .e)
  | set0_H => exact set 0 (.reg .h)
  | set0_L => exact set 0 (.reg .l)
  | set0_atHL => exact set 0 .atHL
  | set0_A => exact set 0 (.reg .a)
  | set1_B => exact set 1 (.reg .b)
  | set1_C => exact set 1 (.reg .c)
  | set1_D => exact set 1 (.reg .d)
  | set1_E => exact set 1 (.reg .e)
  | set1_H => exact set 1 (.reg .h)
  | set1_L => exact set 1 (.reg .l)
  | set1_atHL => exact set 1 .atHL
  | set1_A => exact set 1 (.reg .a)
  | set2_B => exact set 2 (.reg .b)
  | set2_C => exact set 2 (.reg .c)
  | set2_D => exact set 2 (.reg .d)
  | set2_E => exact set 2 (.reg .e)
  | set2_H => exact set 2 (.reg .h)
  | set2_L => exact set 2 (.reg .l)
  | set2_atHL => exact set 2 .atHL
  | set2_A => exact set 2 (.reg .a)
  | set3_B => exact set 3 (.reg .b)
  | set3_C => exact set 3 (.reg .c)
  | set3_D => exact set 3 (.reg .d)
  | set3_E => exact set 3 (.reg .e)
  | set3_H => exact set 3 (.reg .h)
  | set3_L => exact set 3 (.reg .l)
  | set3_atHL => exact set 3 .atHL
  | set3_A => exact set 3 (.reg .a)
  | set4_B => exact set 4 (.reg .b)
  | set4_C => exact set 4 (.reg .c)
  | set4_D => exact set 4 (.reg .d)
  | set4_E => exact set 4 (.reg .e)
  | set4_H => exact set 4 (.reg .h)
  | set4_L => exact set 4 (.reg .l)
  | set4_atHL => exact set 4 .atHL
  | set4_A => exact set 4 (.reg .a)
  | set5_B => exact set 5 (.reg .b)
  | set5_C => exact set 5 (.reg .c)
  | set5_D => exact set 5 (.reg .d)
  | set5_E => exact set 5 (.reg .e)
  | set5_H => exact set 5 (.reg .h)
  | set5_L => exact set 5 (.reg .l)
  | set5_atHL => exact set 5 .atHL
  | set5_A => exact set 5 (.reg .a)
  | set6_B => exact set 6 (.reg .b)
  | set6_C => exact set 6 (.reg .c)
  | set6_D => exact set 6 (.reg .d)
  | set6_E => exact set 6 (.reg .e)
  | set6_H => exact set 6 (.reg .h)
  | set6_L => exact set 6 (.reg .l)
  | set6_atHL => exact set 6 .atHL
  | set6_A => exact set 6 (.reg .a)
  | set7_B => exact set 7 (.reg .b)
  | set7_C => exact set 7 (.reg .c)
  | set7_D => exact set 7 (.reg .d)
  | set7_E => exact set 7 (.reg .e)
  | set7_H => exact set 7 (.reg .h)
  | set7_L => exact set 7 (.reg .l)
  | set7_atHL => exact set 7 .atHL
  | set7_A => exact set 7 (.reg .a)

/-- An undefined primary opcode locks the CORE (R286). -/
theorem exec_undefined {i : Instr} (h : i ∈ Instr.undefinedOpcodes) (s : State) : exec i s = .next (s.lock.charge 1) := by
  simp only [Instr.undefinedOpcodes, List.mem_cons, List.not_mem_nil, or_false] at h
  rcases h with rfl | rfl | rfl | rfl | rfl | rfl | rfl | rfl | rfl | rfl | rfl <;> rfl

/-- The extended dispatch runs the rule of the row that the extended byte decodes to (R250). -/
theorem execExtended_eq (b : Byte) (s : State) : execExtended b s = exec (decodeExtended b) s := by
  unfold execExtended decodeExtended
  rcases opX b with _ | _ | _ | x <;> simp

/-! ## What a step can do -/

/-- A step is idle, or it runs the fetched instruction (R296). -/
theorem step_eq (s : State) :
    step s = if s.idle then .next s.idleStep else exec s.fetch s.afterFetch := rfl

/-- If a step answers a next state, it was an idle step, or a dispatch of the fetched instruction. -/
theorem step_cases {s t : State} (h : step s = .next t) :
    (s.idle = true ∧ t = s.idleStep) ∨ (s.idle = false ∧ exec s.fetch s.afterFetch = .next t) := by
  rw [step_eq] at h
  cases hs : s.idle with
  | true => simp only [hs, if_true, Host.Outcome.next.injEq] at h; exact .inl ⟨rfl, h.symm⟩
  | false => simp only [hs, Bool.false_eq_true, if_false] at h; exact .inr ⟨rfl, h⟩

end Sys2Proof.Machine
end

