-- ==== Sys2Proof/Laws/PerInstr.lean ====
section
/-! SUPPORT. The per-instruction family `FirstByteFixesLength` (30_encoding.md R87): a whole instruction's encoding is as
long as its first byte says. -/

namespace Sys2Proof.Laws.FirstByteFixesLength

open Sys2Proof

/-- The length of a whole instruction's encoding is the length its first byte fixes. -/
def Statement (i : Instr) : Prop :=
  i.wf = true → (encode i).head?.map instrLength = some (encode i).length

theorem nop : Statement .nop := fun _ => rfl
theorem ldBC_nn (nn : Word) : Statement (.ldBC_nn nn) := fun _ => rfl
theorem ldAtBC_A : Statement .ldAtBC_A := fun _ => rfl
theorem incBC : Statement .incBC := fun _ => rfl
theorem incB : Statement .incB := fun _ => rfl
theorem decB : Statement .decB := fun _ => rfl
theorem ldB_n (n : Byte) : Statement (.ldB_n n) := fun _ => rfl
theorem rlca : Statement .rlca := fun _ => rfl
theorem ldAtNN_SP (nn : Word) : Statement (.ldAtNN_SP nn) := fun _ => rfl
theorem addHL_BC : Statement .addHL_BC := fun _ => rfl
theorem ldA_atBC : Statement .ldA_atBC := fun _ => rfl
theorem decBC : Statement .decBC := fun _ => rfl
theorem incC : Statement .incC := fun _ => rfl
theorem decC : Statement .decC := fun _ => rfl
theorem ldC_n (n : Byte) : Statement (.ldC_n n) := fun _ => rfl
theorem rrca : Statement .rrca := fun _ => rfl
theorem stop (n : Byte) : Statement (.stop n) := fun _ => rfl
theorem ldDE_nn (nn : Word) : Statement (.ldDE_nn nn) := fun _ => rfl
theorem ldAtDE_A : Statement .ldAtDE_A := fun _ => rfl
theorem incDE : Statement .incDE := fun _ => rfl
theorem incD : Statement .incD := fun _ => rfl
theorem decD : Statement .decD := fun _ => rfl
theorem ldD_n (n : Byte) : Statement (.ldD_n n) := fun _ => rfl
theorem rla : Statement .rla := fun _ => rfl
theorem jr (e : Byte) : Statement (.jr e) := fun _ => rfl
theorem addHL_DE : Statement .addHL_DE := fun _ => rfl
theorem ldA_atDE : Statement .ldA_atDE := fun _ => rfl
theorem decDE : Statement .decDE := fun _ => rfl
theorem incE : Statement .incE := fun _ => rfl
theorem decE : Statement .decE := fun _ => rfl
theorem ldE_n (n : Byte) : Statement (.ldE_n n) := fun _ => rfl
theorem rra : Statement .rra := fun _ => rfl
theorem jrNZ (e : Byte) : Statement (.jrNZ e) := fun _ => rfl
theorem ldHL_nn (nn : Word) : Statement (.ldHL_nn nn) := fun _ => rfl
theorem ldAtHLinc_A : Statement .ldAtHLinc_A := fun _ => rfl
theorem incHL : Statement .incHL := fun _ => rfl
theorem incH : Statement .incH := fun _ => rfl
theorem decH : Statement .decH := fun _ => rfl
theorem ldH_n (n : Byte) : Statement (.ldH_n n) := fun _ => rfl
theorem daa : Statement .daa := fun _ => rfl
theorem jrZ (e : Byte) : Statement (.jrZ e) := fun _ => rfl
theorem addHL_HL : Statement .addHL_HL := fun _ => rfl
theorem ldA_atHLinc : Statement .ldA_atHLinc := fun _ => rfl
theorem decHL : Statement .decHL := fun _ => rfl
theorem incL : Statement .incL := fun _ => rfl
theorem decL : Statement .decL := fun _ => rfl
theorem ldL_n (n : Byte) : Statement (.ldL_n n) := fun _ => rfl
theorem cpl : Statement .cpl := fun _ => rfl
theorem jrNC (e : Byte) : Statement (.jrNC e) := fun _ => rfl
theorem ldSP_nn (nn : Word) : Statement (.ldSP_nn nn) := fun _ => rfl
theorem ldAtHLdec_A : Statement .ldAtHLdec_A := fun _ => rfl
theorem incSP : Statement .incSP := fun _ => rfl
theorem incAtHL : Statement .incAtHL := fun _ => rfl
theorem decAtHL : Statement .decAtHL := fun _ => rfl
theorem ldAtHL_n (n : Byte) : Statement (.ldAtHL_n n) := fun _ => rfl
theorem scf : Statement .scf := fun _ => rfl
theorem jrC (e : Byte) : Statement (.jrC e) := fun _ => rfl
theorem addHL_SP : Statement .addHL_SP := fun _ => rfl
theorem ldA_atHLdec : Statement .ldA_atHLdec := fun _ => rfl
theorem decSP : Statement .decSP := fun _ => rfl
theorem incA : Statement .incA := fun _ => rfl
theorem decA : Statement .decA := fun _ => rfl
theorem ldA_n (n : Byte) : Statement (.ldA_n n) := fun _ => rfl
theorem ccf : Statement .ccf := fun _ => rfl
theorem ldB_B : Statement .ldB_B := fun _ => rfl
theorem ldB_C : Statement .ldB_C := fun _ => rfl
theorem ldB_D : Statement .ldB_D := fun _ => rfl
theorem ldB_E : Statement .ldB_E := fun _ => rfl
theorem ldB_H : Statement .ldB_H := fun _ => rfl
theorem ldB_L : Statement .ldB_L := fun _ => rfl
theorem ldB_atHL : Statement .ldB_atHL := fun _ => rfl
theorem ldB_A : Statement .ldB_A := fun _ => rfl
theorem ldC_B : Statement .ldC_B := fun _ => rfl
theorem ldC_C : Statement .ldC_C := fun _ => rfl
theorem ldC_D : Statement .ldC_D := fun _ => rfl
theorem ldC_E : Statement .ldC_E := fun _ => rfl
theorem ldC_H : Statement .ldC_H := fun _ => rfl
theorem ldC_L : Statement .ldC_L := fun _ => rfl
theorem ldC_atHL : Statement .ldC_atHL := fun _ => rfl
theorem ldC_A : Statement .ldC_A := fun _ => rfl
theorem ldD_B : Statement .ldD_B := fun _ => rfl
theorem ldD_C : Statement .ldD_C := fun _ => rfl
theorem ldD_D : Statement .ldD_D := fun _ => rfl
theorem ldD_E : Statement .ldD_E := fun _ => rfl
theorem ldD_H : Statement .ldD_H := fun _ => rfl
theorem ldD_L : Statement .ldD_L := fun _ => rfl
theorem ldD_atHL : Statement .ldD_atHL := fun _ => rfl
theorem ldD_A : Statement .ldD_A := fun _ => rfl
theorem ldE_B : Statement .ldE_B := fun _ => rfl
theorem ldE_C : Statement .ldE_C := fun _ => rfl
theorem ldE_D : Statement .ldE_D := fun _ => rfl
theorem ldE_E : Statement .ldE_E := fun _ => rfl
theorem ldE_H : Statement .ldE_H := fun _ => rfl
theorem ldE_L : Statement .ldE_L := fun _ => rfl
theorem ldE_atHL : Statement .ldE_atHL := fun _ => rfl
theorem ldE_A : Statement .ldE_A := fun _ => rfl
theorem ldH_B : Statement .ldH_B := fun _ => rfl
theorem ldH_C : Statement .ldH_C := fun _ => rfl
theorem ldH_D : Statement .ldH_D := fun _ => rfl
theorem ldH_E : Statement .ldH_E := fun _ => rfl
theorem ldH_H : Statement .ldH_H := fun _ => rfl
theorem ldH_L : Statement .ldH_L := fun _ => rfl
theorem ldH_atHL : Statement .ldH_atHL := fun _ => rfl
theorem ldH_A : Statement .ldH_A := fun _ => rfl
theorem ldL_B : Statement .ldL_B := fun _ => rfl
theorem ldL_C : Statement .ldL_C := fun _ => rfl
theorem ldL_D : Statement .ldL_D := fun _ => rfl
theorem ldL_E : Statement .ldL_E := fun _ => rfl
theorem ldL_H : Statement .ldL_H := fun _ => rfl
theorem ldL_L : Statement .ldL_L := fun _ => rfl
theorem ldL_atHL : Statement .ldL_atHL := fun _ => rfl
theorem ldL_A : Statement .ldL_A := fun _ => rfl
theorem ldAtHL_B : Statement .ldAtHL_B := fun _ => rfl
theorem ldAtHL_C : Statement .ldAtHL_C := fun _ => rfl
theorem ldAtHL_D : Statement .ldAtHL_D := fun _ => rfl
theorem ldAtHL_E : Statement .ldAtHL_E := fun _ => rfl
theorem ldAtHL_H : Statement .ldAtHL_H := fun _ => rfl
theorem ldAtHL_L : Statement .ldAtHL_L := fun _ => rfl
theorem halt : Statement .halt := fun _ => rfl
theorem ldAtHL_A : Statement .ldAtHL_A := fun _ => rfl
theorem ldA_B : Statement .ldA_B := fun _ => rfl
theorem ldA_C : Statement .ldA_C := fun _ => rfl
theorem ldA_D : Statement .ldA_D := fun _ => rfl
theorem ldA_E : Statement .ldA_E := fun _ => rfl
theorem ldA_H : Statement .ldA_H := fun _ => rfl
theorem ldA_L : Statement .ldA_L := fun _ => rfl
theorem ldA_atHL : Statement .ldA_atHL := fun _ => rfl
theorem ldA_A : Statement .ldA_A := fun _ => rfl
theorem addA_B : Statement .addA_B := fun _ => rfl
theorem addA_C : Statement .addA_C := fun _ => rfl
theorem addA_D : Statement .addA_D := fun _ => rfl
theorem addA_E : Statement .addA_E := fun _ => rfl
theorem addA_H : Statement .addA_H := fun _ => rfl
theorem addA_L : Statement .addA_L := fun _ => rfl
theorem addA_atHL : Statement .addA_atHL := fun _ => rfl
theorem addA_A : Statement .addA_A := fun _ => rfl
theorem adcA_B : Statement .adcA_B := fun _ => rfl
theorem adcA_C : Statement .adcA_C := fun _ => rfl
theorem adcA_D : Statement .adcA_D := fun _ => rfl
theorem adcA_E : Statement .adcA_E := fun _ => rfl
theorem adcA_H : Statement .adcA_H := fun _ => rfl
theorem adcA_L : Statement .adcA_L := fun _ => rfl
theorem adcA_atHL : Statement .adcA_atHL := fun _ => rfl
theorem adcA_A : Statement .adcA_A := fun _ => rfl
theorem subB : Statement .subB := fun _ => rfl
theorem subC : Statement .subC := fun _ => rfl
theorem subD : Statement .subD := fun _ => rfl
theorem subE : Statement .subE := fun _ => rfl
theorem subH : Statement .subH := fun _ => rfl
theorem subL : Statement .subL := fun _ => rfl
theorem subAtHL : Statement .subAtHL := fun _ => rfl
theorem subA : Statement .subA := fun _ => rfl
theorem sbcA_B : Statement .sbcA_B := fun _ => rfl
theorem sbcA_C : Statement .sbcA_C := fun _ => rfl
theorem sbcA_D : Statement .sbcA_D := fun _ => rfl
theorem sbcA_E : Statement .sbcA_E := fun _ => rfl
theorem sbcA_H : Statement .sbcA_H := fun _ => rfl
theorem sbcA_L : Statement .sbcA_L := fun _ => rfl
theorem sbcA_atHL : Statement .sbcA_atHL := fun _ => rfl
theorem sbcA_A : Statement .sbcA_A := fun _ => rfl
theorem andB : Statement .andB := fun _ => rfl
theorem andC : Statement .andC := fun _ => rfl
theorem andD : Statement .andD := fun _ => rfl
theorem andE : Statement .andE := fun _ => rfl
theorem andH : Statement .andH := fun _ => rfl
theorem andL : Statement .andL := fun _ => rfl
theorem andAtHL : Statement .andAtHL := fun _ => rfl
theorem andA : Statement .andA := fun _ => rfl
theorem xorB : Statement .xorB := fun _ => rfl
theorem xorC : Statement .xorC := fun _ => rfl
theorem xorD : Statement .xorD := fun _ => rfl
theorem xorE : Statement .xorE := fun _ => rfl
theorem xorH : Statement .xorH := fun _ => rfl
theorem xorL : Statement .xorL := fun _ => rfl
theorem xorAtHL : Statement .xorAtHL := fun _ => rfl
theorem xorA : Statement .xorA := fun _ => rfl
theorem orB : Statement .orB := fun _ => rfl
theorem orC : Statement .orC := fun _ => rfl
theorem orD : Statement .orD := fun _ => rfl
theorem orE : Statement .orE := fun _ => rfl
theorem orH : Statement .orH := fun _ => rfl
theorem orL : Statement .orL := fun _ => rfl
theorem orAtHL : Statement .orAtHL := fun _ => rfl
theorem orA : Statement .orA := fun _ => rfl
theorem cpB : Statement .cpB := fun _ => rfl
theorem cpC : Statement .cpC := fun _ => rfl
theorem cpD : Statement .cpD := fun _ => rfl
theorem cpE : Statement .cpE := fun _ => rfl
theorem cpH : Statement .cpH := fun _ => rfl
theorem cpL : Statement .cpL := fun _ => rfl
theorem cpAtHL : Statement .cpAtHL := fun _ => rfl
theorem cpA : Statement .cpA := fun _ => rfl
theorem retNZ : Statement .retNZ := fun _ => rfl
theorem popBC : Statement .popBC := fun _ => rfl
theorem jpNZ (nn : Word) : Statement (.jpNZ nn) := fun _ => rfl
theorem jp (nn : Word) : Statement (.jp nn) := fun _ => rfl
theorem callNZ (nn : Word) : Statement (.callNZ nn) := fun _ => rfl
theorem pushBC : Statement .pushBC := fun _ => rfl
theorem addA_n (n : Byte) : Statement (.addA_n n) := fun _ => rfl
theorem rst00 : Statement .rst00 := fun _ => rfl
theorem retZ : Statement .retZ := fun _ => rfl
theorem ret : Statement .ret := fun _ => rfl
theorem jpZ (nn : Word) : Statement (.jpZ nn) := fun _ => rfl
theorem prefixCB : Statement .prefixCB := fun h => absurd h (by decide)
theorem callZ (nn : Word) : Statement (.callZ nn) := fun _ => rfl
theorem call (nn : Word) : Statement (.call nn) := fun _ => rfl
theorem adcA_n (n : Byte) : Statement (.adcA_n n) := fun _ => rfl
theorem rst08 : Statement .rst08 := fun _ => rfl
theorem retNC : Statement .retNC := fun _ => rfl
theorem popDE : Statement .popDE := fun _ => rfl
theorem jpNC (nn : Word) : Statement (.jpNC nn) := fun _ => rfl
theorem callNC (nn : Word) : Statement (.callNC nn) := fun _ => rfl
theorem pushDE : Statement .pushDE := fun _ => rfl
theorem sub_n (n : Byte) : Statement (.sub_n n) := fun _ => rfl
theorem rst10 : Statement .rst10 := fun _ => rfl
theorem retC : Statement .retC := fun _ => rfl
theorem reti : Statement .reti := fun _ => rfl
theorem jpC (nn : Word) : Statement (.jpC nn) := fun _ => rfl
theorem callC (nn : Word) : Statement (.callC nn) := fun _ => rfl
theorem sbcA_n (n : Byte) : Statement (.sbcA_n n) := fun _ => rfl
theorem rst18 : Statement .rst18 := fun _ => rfl
theorem ldhAtN_A (n : Byte) : Statement (.ldhAtN_A n) := fun _ => rfl
theorem popHL : Statement .popHL := fun _ => rfl
theorem ldAtC_A : Statement .ldAtC_A := fun _ => rfl
theorem pushHL : Statement .pushHL := fun _ => rfl
theorem and_n (n : Byte) : Statement (.and_n n) := fun _ => rfl
theorem rst20 : Statement .rst20 := fun _ => rfl
theorem addSP_e (e : Byte) : Statement (.addSP_e e) := fun _ => rfl
theorem jpHL : Statement .jpHL := fun _ => rfl
theorem ldAtNN_A (nn : Word) : Statement (.ldAtNN_A nn) := fun _ => rfl
theorem xor_n (n : Byte) : Statement (.xor_n n) := fun _ => rfl
theorem rst28 : Statement .rst28 := fun _ => rfl
theorem ldhA_atN (n : Byte) : Statement (.ldhA_atN n) := fun _ => rfl
theorem popAF : Statement .popAF := fun _ => rfl
theorem ldA_atC : Statement .ldA_atC := fun _ => rfl
theorem di : Statement .di := fun _ => rfl
theorem pushAF : Statement .pushAF := fun _ => rfl
theorem or_n (n : Byte) : Statement (.or_n n) := fun _ => rfl
theorem rst30 : Statement .rst30 := fun _ => rfl
theorem ldHL_SPe (e : Byte) : Statement (.ldHL_SPe e) := fun _ => rfl
theorem ldSP_HL : Statement .ldSP_HL := fun _ => rfl
theorem ldA_atNN (nn : Word) : Statement (.ldA_atNN nn) := fun _ => rfl
theorem ei : Statement .ei := fun _ => rfl
theorem cp_n (n : Byte) : Statement (.cp_n n) := fun _ => rfl
theorem rst38 : Statement .rst38 := fun _ => rfl
theorem undefinedD3 : Statement .undefinedD3 := fun _ => rfl
theorem undefinedDB : Statement .undefinedDB := fun _ => rfl
theorem undefinedDD : Statement .undefinedDD := fun _ => rfl
theorem undefinedE3 : Statement .undefinedE3 := fun _ => rfl
theorem undefinedE4 : Statement .undefinedE4 := fun _ => rfl
theorem undefinedEB : Statement .undefinedEB := fun _ => rfl
theorem undefinedEC : Statement .undefinedEC := fun _ => rfl
theorem undefinedED : Statement .undefinedED := fun _ => rfl
theorem undefinedF4 : Statement .undefinedF4 := fun _ => rfl
theorem undefinedFC : Statement .undefinedFC := fun _ => rfl
theorem undefinedFD : Statement .undefinedFD := fun _ => rfl
theorem rlcB : Statement .rlcB := fun _ => rfl
theorem rlcC : Statement .rlcC := fun _ => rfl
theorem rlcD : Statement .rlcD := fun _ => rfl
theorem rlcE : Statement .rlcE := fun _ => rfl
theorem rlcH : Statement .rlcH := fun _ => rfl
theorem rlcL : Statement .rlcL := fun _ => rfl
theorem rlcAtHL : Statement .rlcAtHL := fun _ => rfl
theorem rlcA : Statement .rlcA := fun _ => rfl
theorem rrcB : Statement .rrcB := fun _ => rfl
theorem rrcC : Statement .rrcC := fun _ => rfl
theorem rrcD : Statement .rrcD := fun _ => rfl
theorem rrcE : Statement .rrcE := fun _ => rfl
theorem rrcH : Statement .rrcH := fun _ => rfl
theorem rrcL : Statement .rrcL := fun _ => rfl
theorem rrcAtHL : Statement .rrcAtHL := fun _ => rfl
theorem rrcA : Statement .rrcA := fun _ => rfl
theorem rlB : Statement .rlB := fun _ => rfl
theorem rlC : Statement .rlC := fun _ => rfl
theorem rlD : Statement .rlD := fun _ => rfl
theorem rlE : Statement .rlE := fun _ => rfl
theorem rlH : Statement .rlH := fun _ => rfl
theorem rlL : Statement .rlL := fun _ => rfl
theorem rlAtHL : Statement .rlAtHL := fun _ => rfl
theorem rlA : Statement .rlA := fun _ => rfl
theorem rrB : Statement .rrB := fun _ => rfl
theorem rrC : Statement .rrC := fun _ => rfl
theorem rrD : Statement .rrD := fun _ => rfl
theorem rrE : Statement .rrE := fun _ => rfl
theorem rrH : Statement .rrH := fun _ => rfl
theorem rrL : Statement .rrL := fun _ => rfl
theorem rrAtHL : Statement .rrAtHL := fun _ => rfl
theorem rrA : Statement .rrA := fun _ => rfl
theorem slaB : Statement .slaB := fun _ => rfl
theorem slaC : Statement .slaC := fun _ => rfl
theorem slaD : Statement .slaD := fun _ => rfl
theorem slaE : Statement .slaE := fun _ => rfl
theorem slaH : Statement .slaH := fun _ => rfl
theorem slaL : Statement .slaL := fun _ => rfl
theorem slaAtHL : Statement .slaAtHL := fun _ => rfl
theorem slaA : Statement .slaA := fun _ => rfl
theorem sraB : Statement .sraB := fun _ => rfl
theorem sraC : Statement .sraC := fun _ => rfl
theorem sraD : Statement .sraD := fun _ => rfl
theorem sraE : Statement .sraE := fun _ => rfl
theorem sraH : Statement .sraH := fun _ => rfl
theorem sraL : Statement .sraL := fun _ => rfl
theorem sraAtHL : Statement .sraAtHL := fun _ => rfl
theorem sraA : Statement .sraA := fun _ => rfl
theorem swapB : Statement .swapB := fun _ => rfl
theorem swapC : Statement .swapC := fun _ => rfl
theorem swapD : Statement .swapD := fun _ => rfl
theorem swapE : Statement .swapE := fun _ => rfl
theorem swapH : Statement .swapH := fun _ => rfl
theorem swapL : Statement .swapL := fun _ => rfl
theorem swapAtHL : Statement .swapAtHL := fun _ => rfl
theorem swapA : Statement .swapA := fun _ => rfl
theorem srlB : Statement .srlB := fun _ => rfl
theorem srlC : Statement .srlC := fun _ => rfl
theorem srlD : Statement .srlD := fun _ => rfl
theorem srlE : Statement .srlE := fun _ => rfl
theorem srlH : Statement .srlH := fun _ => rfl
theorem srlL : Statement .srlL := fun _ => rfl
theorem srlAtHL : Statement .srlAtHL := fun _ => rfl
theorem srlA : Statement .srlA := fun _ => rfl
theorem bit0_B : Statement .bit0_B := fun _ => rfl
theorem bit0_C : Statement .bit0_C := fun _ => rfl
theorem bit0_D : Statement .bit0_D := fun _ => rfl
theorem bit0_E : Statement .bit0_E := fun _ => rfl
theorem bit0_H : Statement .bit0_H := fun _ => rfl
theorem bit0_L : Statement .bit0_L := fun _ => rfl
theorem bit0_atHL : Statement .bit0_atHL := fun _ => rfl
theorem bit0_A : Statement .bit0_A := fun _ => rfl
theorem bit1_B : Statement .bit1_B := fun _ => rfl
theorem bit1_C : Statement .bit1_C := fun _ => rfl
theorem bit1_D : Statement .bit1_D := fun _ => rfl
theorem bit1_E : Statement .bit1_E := fun _ => rfl
theorem bit1_H : Statement .bit1_H := fun _ => rfl
theorem bit1_L : Statement .bit1_L := fun _ => rfl
theorem bit1_atHL : Statement .bit1_atHL := fun _ => rfl
theorem bit1_A : Statement .bit1_A := fun _ => rfl
theorem bit2_B : Statement .bit2_B := fun _ => rfl
theorem bit2_C : Statement .bit2_C := fun _ => rfl
theorem bit2_D : Statement .bit2_D := fun _ => rfl
theorem bit2_E : Statement .bit2_E := fun _ => rfl
theorem bit2_H : Statement .bit2_H := fun _ => rfl
theorem bit2_L : Statement .bit2_L := fun _ => rfl
theorem bit2_atHL : Statement .bit2_atHL := fun _ => rfl
theorem bit2_A : Statement .bit2_A := fun _ => rfl
theorem bit3_B : Statement .bit3_B := fun _ => rfl
theorem bit3_C : Statement .bit3_C := fun _ => rfl
theorem bit3_D : Statement .bit3_D := fun _ => rfl
theorem bit3_E : Statement .bit3_E := fun _ => rfl
theorem bit3_H : Statement .bit3_H := fun _ => rfl
theorem bit3_L : Statement .bit3_L := fun _ => rfl
theorem bit3_atHL : Statement .bit3_atHL := fun _ => rfl
theorem bit3_A : Statement .bit3_A := fun _ => rfl
theorem bit4_B : Statement .bit4_B := fun _ => rfl
theorem bit4_C : Statement .bit4_C := fun _ => rfl
theorem bit4_D : Statement .bit4_D := fun _ => rfl
theorem bit4_E : Statement .bit4_E := fun _ => rfl
theorem bit4_H : Statement .bit4_H := fun _ => rfl
theorem bit4_L : Statement .bit4_L := fun _ => rfl
theorem bit4_atHL : Statement .bit4_atHL := fun _ => rfl
theorem bit4_A : Statement .bit4_A := fun _ => rfl
theorem bit5_B : Statement .bit5_B := fun _ => rfl
theorem bit5_C : Statement .bit5_C := fun _ => rfl
theorem bit5_D : Statement .bit5_D := fun _ => rfl
theorem bit5_E : Statement .bit5_E := fun _ => rfl
theorem bit5_H : Statement .bit5_H := fun _ => rfl
theorem bit5_L : Statement .bit5_L := fun _ => rfl
theorem bit5_atHL : Statement .bit5_atHL := fun _ => rfl
theorem bit5_A : Statement .bit5_A := fun _ => rfl
theorem bit6_B : Statement .bit6_B := fun _ => rfl
theorem bit6_C : Statement .bit6_C := fun _ => rfl
theorem bit6_D : Statement .bit6_D := fun _ => rfl
theorem bit6_E : Statement .bit6_E := fun _ => rfl
theorem bit6_H : Statement .bit6_H := fun _ => rfl
theorem bit6_L : Statement .bit6_L := fun _ => rfl
theorem bit6_atHL : Statement .bit6_atHL := fun _ => rfl
theorem bit6_A : Statement .bit6_A := fun _ => rfl
theorem bit7_B : Statement .bit7_B := fun _ => rfl
theorem bit7_C : Statement .bit7_C := fun _ => rfl
theorem bit7_D : Statement .bit7_D := fun _ => rfl
theorem bit7_E : Statement .bit7_E := fun _ => rfl
theorem bit7_H : Statement .bit7_H := fun _ => rfl
theorem bit7_L : Statement .bit7_L := fun _ => rfl
theorem bit7_atHL : Statement .bit7_atHL := fun _ => rfl
theorem bit7_A : Statement .bit7_A := fun _ => rfl
theorem res0_B : Statement .res0_B := fun _ => rfl
theorem res0_C : Statement .res0_C := fun _ => rfl
theorem res0_D : Statement .res0_D := fun _ => rfl
theorem res0_E : Statement .res0_E := fun _ => rfl
theorem res0_H : Statement .res0_H := fun _ => rfl
theorem res0_L : Statement .res0_L := fun _ => rfl
theorem res0_atHL : Statement .res0_atHL := fun _ => rfl
theorem res0_A : Statement .res0_A := fun _ => rfl
theorem res1_B : Statement .res1_B := fun _ => rfl
theorem res1_C : Statement .res1_C := fun _ => rfl
theorem res1_D : Statement .res1_D := fun _ => rfl
theorem res1_E : Statement .res1_E := fun _ => rfl
theorem res1_H : Statement .res1_H := fun _ => rfl
theorem res1_L : Statement .res1_L := fun _ => rfl
theorem res1_atHL : Statement .res1_atHL := fun _ => rfl
theorem res1_A : Statement .res1_A := fun _ => rfl
theorem res2_B : Statement .res2_B := fun _ => rfl
theorem res2_C : Statement .res2_C := fun _ => rfl
theorem res2_D : Statement .res2_D := fun _ => rfl
theorem res2_E : Statement .res2_E := fun _ => rfl
theorem res2_H : Statement .res2_H := fun _ => rfl
theorem res2_L : Statement .res2_L := fun _ => rfl
theorem res2_atHL : Statement .res2_atHL := fun _ => rfl
theorem res2_A : Statement .res2_A := fun _ => rfl
theorem res3_B : Statement .res3_B := fun _ => rfl
theorem res3_C : Statement .res3_C := fun _ => rfl
theorem res3_D : Statement .res3_D := fun _ => rfl
theorem res3_E : Statement .res3_E := fun _ => rfl
theorem res3_H : Statement .res3_H := fun _ => rfl
theorem res3_L : Statement .res3_L := fun _ => rfl
theorem res3_atHL : Statement .res3_atHL := fun _ => rfl
theorem res3_A : Statement .res3_A := fun _ => rfl
theorem res4_B : Statement .res4_B := fun _ => rfl
theorem res4_C : Statement .res4_C := fun _ => rfl
theorem res4_D : Statement .res4_D := fun _ => rfl
theorem res4_E : Statement .res4_E := fun _ => rfl
theorem res4_H : Statement .res4_H := fun _ => rfl
theorem res4_L : Statement .res4_L := fun _ => rfl
theorem res4_atHL : Statement .res4_atHL := fun _ => rfl
theorem res4_A : Statement .res4_A := fun _ => rfl
theorem res5_B : Statement .res5_B := fun _ => rfl
theorem res5_C : Statement .res5_C := fun _ => rfl
theorem res5_D : Statement .res5_D := fun _ => rfl
theorem res5_E : Statement .res5_E := fun _ => rfl
theorem res5_H : Statement .res5_H := fun _ => rfl
theorem res5_L : Statement .res5_L := fun _ => rfl
theorem res5_atHL : Statement .res5_atHL := fun _ => rfl
theorem res5_A : Statement .res5_A := fun _ => rfl
theorem res6_B : Statement .res6_B := fun _ => rfl
theorem res6_C : Statement .res6_C := fun _ => rfl
theorem res6_D : Statement .res6_D := fun _ => rfl
theorem res6_E : Statement .res6_E := fun _ => rfl
theorem res6_H : Statement .res6_H := fun _ => rfl
theorem res6_L : Statement .res6_L := fun _ => rfl
theorem res6_atHL : Statement .res6_atHL := fun _ => rfl
theorem res6_A : Statement .res6_A := fun _ => rfl
theorem res7_B : Statement .res7_B := fun _ => rfl
theorem res7_C : Statement .res7_C := fun _ => rfl
theorem res7_D : Statement .res7_D := fun _ => rfl
theorem res7_E : Statement .res7_E := fun _ => rfl
theorem res7_H : Statement .res7_H := fun _ => rfl
theorem res7_L : Statement .res7_L := fun _ => rfl
theorem res7_atHL : Statement .res7_atHL := fun _ => rfl
theorem res7_A : Statement .res7_A := fun _ => rfl
theorem set0_B : Statement .set0_B := fun _ => rfl
theorem set0_C : Statement .set0_C := fun _ => rfl
theorem set0_D : Statement .set0_D := fun _ => rfl
theorem set0_E : Statement .set0_E := fun _ => rfl
theorem set0_H : Statement .set0_H := fun _ => rfl
theorem set0_L : Statement .set0_L := fun _ => rfl
theorem set0_atHL : Statement .set0_atHL := fun _ => rfl
theorem set0_A : Statement .set0_A := fun _ => rfl
theorem set1_B : Statement .set1_B := fun _ => rfl
theorem set1_C : Statement .set1_C := fun _ => rfl
theorem set1_D : Statement .set1_D := fun _ => rfl
theorem set1_E : Statement .set1_E := fun _ => rfl
theorem set1_H : Statement .set1_H := fun _ => rfl
theorem set1_L : Statement .set1_L := fun _ => rfl
theorem set1_atHL : Statement .set1_atHL := fun _ => rfl
theorem set1_A : Statement .set1_A := fun _ => rfl
theorem set2_B : Statement .set2_B := fun _ => rfl
theorem set2_C : Statement .set2_C := fun _ => rfl
theorem set2_D : Statement .set2_D := fun _ => rfl
theorem set2_E : Statement .set2_E := fun _ => rfl
theorem set2_H : Statement .set2_H := fun _ => rfl
theorem set2_L : Statement .set2_L := fun _ => rfl
theorem set2_atHL : Statement .set2_atHL := fun _ => rfl
theorem set2_A : Statement .set2_A := fun _ => rfl
theorem set3_B : Statement .set3_B := fun _ => rfl
theorem set3_C : Statement .set3_C := fun _ => rfl
theorem set3_D : Statement .set3_D := fun _ => rfl
theorem set3_E : Statement .set3_E := fun _ => rfl
theorem set3_H : Statement .set3_H := fun _ => rfl
theorem set3_L : Statement .set3_L := fun _ => rfl
theorem set3_atHL : Statement .set3_atHL := fun _ => rfl
theorem set3_A : Statement .set3_A := fun _ => rfl
theorem set4_B : Statement .set4_B := fun _ => rfl
theorem set4_C : Statement .set4_C := fun _ => rfl
theorem set4_D : Statement .set4_D := fun _ => rfl
theorem set4_E : Statement .set4_E := fun _ => rfl
theorem set4_H : Statement .set4_H := fun _ => rfl
theorem set4_L : Statement .set4_L := fun _ => rfl
theorem set4_atHL : Statement .set4_atHL := fun _ => rfl
theorem set4_A : Statement .set4_A := fun _ => rfl
theorem set5_B : Statement .set5_B := fun _ => rfl
theorem set5_C : Statement .set5_C := fun _ => rfl
theorem set5_D : Statement .set5_D := fun _ => rfl
theorem set5_E : Statement .set5_E := fun _ => rfl
theorem set5_H : Statement .set5_H := fun _ => rfl
theorem set5_L : Statement .set5_L := fun _ => rfl
theorem set5_atHL : Statement .set5_atHL := fun _ => rfl
theorem set5_A : Statement .set5_A := fun _ => rfl
theorem set6_B : Statement .set6_B := fun _ => rfl
theorem set6_C : Statement .set6_C := fun _ => rfl
theorem set6_D : Statement .set6_D := fun _ => rfl
theorem set6_E : Statement .set6_E := fun _ => rfl
theorem set6_H : Statement .set6_H := fun _ => rfl
theorem set6_L : Statement .set6_L := fun _ => rfl
theorem set6_atHL : Statement .set6_atHL := fun _ => rfl
theorem set6_A : Statement .set6_A := fun _ => rfl
theorem set7_B : Statement .set7_B := fun _ => rfl
theorem set7_C : Statement .set7_C := fun _ => rfl
theorem set7_D : Statement .set7_D := fun _ => rfl
theorem set7_E : Statement .set7_E := fun _ => rfl
theorem set7_H : Statement .set7_H := fun _ => rfl
theorem set7_L : Statement .set7_L := fun _ => rfl
theorem set7_atHL : Statement .set7_atHL := fun _ => rfl
theorem set7_A : Statement .set7_A := fun _ => rfl

end Sys2Proof.Laws.FirstByteFixesLength
end

