-- ==== Sys2Proof/Laws/Run.lean ====
section
/-! SUPPORT. Running several steps: the host's `Core.run` of this machine one step at a time, and `runLoop` (48_execution_loop.md
R304) on either side of its budget. -/

namespace Sys2Proof.Machine

open Sys2Proof

/-- After a step that answers a next state, `k + 1` steps are `k` steps from there. -/
theorem run_succ_of_step (M : Host.Core) {s t : M.State} (h : M.step s = .next t) (k : Nat) :
    M.run (k + 1) s = M.run k t := by
  rw [Host.Core.run, h]

/-- The same for this machine, in the model's own names. -/
theorem core_run_succ {s t : State} (h : step s = .next t) (k : Nat) :
    Host.Core.run Sys2Proof.core (k + 1) s = Host.Core.run Sys2Proof.core k t :=
  run_succ_of_step Sys2Proof.core h k

/-- Below the budget the loop takes one more step and adds its cost (R304). -/
theorem runLoop_below {s t : State} {fuel budget total : Nat} (hb : total < budget) (h : step s = .next t) :
    runLoop (fuel + 1) budget total s = runLoop fuel budget (total + stepCost s t) t := by
  rw [runLoop, if_pos hb, h]

/-- At or past the budget the loop ends (R304). -/
theorem runLoop_done {s : State} {fuel budget total : Nat} (hb : ¬total < budget) :
    runLoop (fuel + 1) budget total s = .next (s, total) := by
  rw [runLoop, if_neg hb]

end Sys2Proof.Machine
end

