-- ==== Sys2Proof/Laws/Stores.lean ====
section
/-! SUPPORT. The bytes each instruction family stores to (`storesOf`), and what a push leaves unchanged, so that a proof about
the footprint of every instruction goes by family (`instr_by_family`). -/

namespace Sys2Proof.Machine

open Sys2Proof

theorem storesOf_mkLdRegReg (dst : Reg8) (r : Reg8) (s : State) : storesOf (.mkLdRegReg dst r) s = [] := by
  cases dst <;> cases r <;> rfl

theorem storesOf_mkLdRegAtHL (r : Reg8) (s : State) : storesOf (.mkLdRegAtHL r) s = [] := by
  cases r <;> rfl

theorem storesOf_mkLdAtHLReg (r : Reg8) (s : State) : storesOf (.mkLdAtHLReg r) s = [s.hl] := by
  cases r <;> rfl

theorem storesOf_mkLdRegImm (r : Reg8) (n : Byte) (s : State) : storesOf (.mkLdRegImm r n) s = [] := by
  cases r <;> rfl

theorem storesOf_mkAlu (op : AluOp) (src : Src8) (s : State) : storesOf (.mkAlu op src) s = [] := by
  cases op <;> rcases src with (_ | _ | _ | _ | _ | _ | _) | _ | n <;> rfl

theorem storesOf_mkInc8 (o : Opnd8) (s : State) : storesOf (.mkInc8 o) s = opndBytes o s := by
  rcases o with (_ | _ | _ | _ | _ | _ | _) | _ <;> rfl

theorem storesOf_mkDec8 (o : Opnd8) (s : State) : storesOf (.mkDec8 o) s = opndBytes o s := by
  rcases o with (_ | _ | _ | _ | _ | _ | _) | _ <;> rfl

theorem storesOf_mkLdPairImm (p : Pair) (nn : Word) (s : State) : storesOf (.mkLdPairImm p nn) s = [] := by
  cases p <;> rfl

theorem storesOf_mkIncPair (p : Pair) (s : State) : storesOf (.mkIncPair p) s = [] := by
  cases p <;> rfl

theorem storesOf_mkDecPair (p : Pair) (s : State) : storesOf (.mkDecPair p) s = [] := by
  cases p <;> rfl

theorem storesOf_mkAddHL (p : Pair) (s : State) : storesOf (.mkAddHL p) s = [] := by
  cases p <;> rfl

theorem storesOf_mkPush (p : StackPair) (s : State) : storesOf (.mkPush p) s = [s.sp - 2, s.sp - 1] := by
  cases p <;> rfl

theorem storesOf_mkPop (p : StackPair) (s : State) : storesOf (.mkPop p) s = [] := by
  cases p <;> rfl

theorem storesOf_mkJpCond (cond : Cond) (nn : Word) (s : State) : storesOf (.mkJpCond cond nn) s = [] := by
  cases cond <;> rfl

theorem storesOf_mkJrCond (cond : Cond) (e : Byte) (s : State) : storesOf (.mkJrCond cond e) s = [] := by
  cases cond <;> rfl

theorem storesOf_mkRetCond (cond : Cond) (s : State) : storesOf (.mkRetCond cond) s = [] := by
  cases cond <;> rfl

theorem storesOf_mkRst (y : Fin 8) (s : State) : storesOf (.mkRst y) s = [s.sp - 2, s.sp - 1] := by
  fin_cases y <;> rfl

theorem storesOf_mkRot (op : RotOp) (o : Opnd8) (s : State) : storesOf (.mkRot op o) s = opndBytes o s := by
  cases op <;> rcases o with (_ | _ | _ | _ | _ | _ | _) | _ <;> rfl

theorem storesOf_mkBit (y : Fin 8) (o : Opnd8) (s : State) : storesOf (.mkBit y o) s = [] := by
  fin_cases y <;> rcases o with (_ | _ | _ | _ | _ | _ | _) | _ <;> rfl

theorem storesOf_mkRes (y : Fin 8) (o : Opnd8) (s : State) : storesOf (.mkRes y o) s = opndBytes o s := by
  fin_cases y <;> rcases o with (_ | _ | _ | _ | _ | _ | _) | _ <;> rfl

theorem storesOf_mkSet (y : Fin 8) (o : Opnd8) (s : State) : storesOf (.mkSet y o) s = opndBytes o s := by
  fin_cases y <;> rcases o with (_ | _ | _ | _ | _ | _ | _) | _ <;> rfl

/-- A conditional call stores its return address when its condition holds (R237). -/
theorem storesOf_mkCallCond (cond : Cond) (nn : Word) (s : State) :
    storesOf (.mkCallCond cond nn) s = if condHolds cond s.flags then [s.sp - 2, s.sp - 1] else [] := by
  obtain ⟨_, ⟨z, n, h, c⟩, _⟩ := s
  cases cond <;> cases z <;> cases c <;> rfl

/-- A push stores to the two bytes below SP and to no other (R71). -/
theorem State.read8_push16_of_not_mem (s : State) (v x : Word) (h : x ∉ [s.sp - 2, s.sp - 1]) :
    (s.push16 v).read8 x = s.read8 x := by
  have e : s.sp - 1 = s.sp - 2 + 1 := by bv_omega
  rw [e] at h
  simp only [List.mem_cons, List.not_mem_nil, or_false, not_or] at h
  rw [State.read8_push16, if_neg h.2, if_neg h.1]

end Sys2Proof.Machine
end

