-- ==== Sys2Proof/Tests/Slice0.lean ====
section
/-! SUPPORT. The model's own tests. The words of the decode tests are written out bit by bit from the formats of
spec/30_encoding.md and the encodings of files 42 to 47. The expected results of the step tests are rows of
spec/95_test_vectors.md section 2 (derived there from the rules; evidence, no rule). The witnesses at the end are states
and operands that meet the hypotheses of the statements of Certificates/Slice0/Obligations.lean. -/

namespace Sys2Proof.Tests

open Sys2Proof Sys2Proof.Machine

/-! ## Helpers -/

/-- The state with some bytes placed at PC. -/
def place (s : State) (bytes : List Byte) : State := s.load s.pc bytes

/-- The step answers a next state, and that state passes the check. -/
def stepsTo (s : State) (check : State → Bool) : Bool :=
  match step s with
  | .next t => check t
  | .fault _ => false
  | .refused _ => false

/-! ## Well-formedness: PREFIX CB alone is no whole instruction, every other constructor is -/

theorem test_wf_refuses_lone_prefix : Instr.wf .prefixCB = false := by decide

theorem test_wf_accepts_extended : Instr.wf .rlcB = true := by decide

theorem test_wf_accepts_undefined : Instr.wf .undefinedD3 = true := by decide

/-! ## Decoding, word by word -/

theorem test_decode_nop : decode [0b00000000] = .ok (.nop, []) := by decide
theorem test_decode_stop : decode [0b00010000, 0x5A] = .ok (.stop 0x5A, []) := by decide
theorem test_decode_jr : decode [0b00011000, 0xFE] = .ok (.jr 0xFE, []) := by decide
theorem test_decode_jr_cc : decode [0b00110000, 0x05] = .ok (.jrNC 0x05, []) := by decide
theorem test_decode_ld_rr_nn : decode [0b00110001, 0x00, 0xD0] = .ok (.ldSP_nn 0xD000, []) := by decide
theorem test_decode_add_hl : decode [0b00011001] = .ok (.addHL_DE, []) := by decide
theorem test_decode_ld_at_de : decode [0b00010010] = .ok (.ldAtDE_A, []) := by decide
theorem test_decode_ld_a_hldec : decode [0b00111010] = .ok (.ldA_atHLdec, []) := by decide
theorem test_decode_inc_rr : decode [0b00000011] = .ok (.incBC, []) := by decide
theorem test_decode_dec_rr : decode [0b00101011] = .ok (.decHL, []) := by decide
theorem test_decode_inc_r : decode [0b00111100] = .ok (.incA, []) := by decide
theorem test_decode_dec_at_hl : decode [0b00110101] = .ok (.decAtHL, []) := by decide
theorem test_decode_ld_r_n : decode [0b00010110, 0xAB] = .ok (.ldD_n 0xAB, []) := by decide
theorem test_decode_ld_at_hl_n : decode [0b00110110, 0x5C] = .ok (.ldAtHL_n 0x5C, []) := by decide
theorem test_decode_rra : decode [0b00011111] = .ok (.rra, []) := by decide
theorem test_decode_scf : decode [0b00110111] = .ok (.scf, []) := by decide
theorem test_decode_ld_r_r : decode [0b01101000] = .ok (.ldL_B, []) := by decide
theorem test_decode_ld_r_at_hl : decode [0b01100110] = .ok (.ldH_atHL, []) := by decide
theorem test_decode_ld_at_hl_r : decode [0b01110100] = .ok (.ldAtHL_H, []) := by decide
theorem test_decode_halt : decode [0b01110110] = .ok (.halt, []) := by decide
theorem test_decode_alu_r : decode [0b10011111] = .ok (.sbcA_A, []) := by decide
theorem test_decode_alu_at_hl : decode [0b10111110] = .ok (.cpAtHL, []) := by decide
theorem test_decode_alu_n : decode [0b11101110, 0xFF] = .ok (.xor_n 0xFF, []) := by decide
theorem test_decode_ret_cc : decode [0b11011000] = .ok (.retC, []) := by decide
theorem test_decode_pop : decode [0b11110001] = .ok (.popAF, []) := by decide
theorem test_decode_push : decode [0b11010101] = .ok (.pushDE, []) := by decide
theorem test_decode_jp_cc : decode [0b11001010, 0x34, 0x12] = .ok (.jpZ 0x1234, []) := by decide
theorem test_decode_call_cc : decode [0b11000100, 0x00, 0x20] = .ok (.callNZ 0x2000, []) := by decide
theorem test_decode_rst : decode [0b11101111] = .ok (.rst28, []) := by decide
theorem test_decode_ldh : decode [0b11100000, 0xFF] = .ok (.ldhAtN_A 0xFF, []) := by decide
theorem test_decode_add_sp : decode [0b11101000, 0xFE] = .ok (.addSP_e 0xFE, []) := by decide
theorem test_decode_ld_sp_hl : decode [0b11111001] = .ok (.ldSP_HL, []) := by decide
theorem test_decode_di : decode [0b11110011] = .ok (.di, []) := by decide
theorem test_decode_undefined : decode [0b11101100] = .ok (.undefinedEC, []) := by decide
theorem test_decode_rot : decode [0b11001011, 0b00101101] = .ok (.sraL, []) := by decide
theorem test_decode_bit : decode [0b11001011, 0b01111100] = .ok (.bit7_H, []) := by decide
theorem test_decode_res : decode [0b11001011, 0b10011000] = .ok (.res3_B, []) := by decide
theorem test_decode_set_at_hl : decode [0b11001011, 0b11000110] = .ok (.set0_atHL, []) := by decide
theorem test_decode_leaves_the_rest : decode [0x3E, 0x01, 0x0E] = .ok (.ldA_n 0x01, [0x0E]) := by decide
theorem test_decode_refuses_nothing : decode [] = .error .noBytes := by decide
theorem test_decode_refuses_truncated : decode [0xC3, 0x34] = .error (.truncated 0xC3) := by decide

/-! ## Table words: one byte, a byte with its operands left 0, a two-byte extended word (R106: 0xCB is the high byte) -/

theorem test_table_word_p1 : decodeTableWord 8 0x76 = some .halt := by decide
theorem test_table_word_p2 : decodeTableWord 8 0x3E = some (.ldA_n 0x00) := by decide
theorem test_table_word_p3 : decodeTableWord 8 0xC3 = some (.jp 0x0000) := by decide
theorem test_table_word_prefix : decodeTableWord 8 0xCB = some .prefixCB := by decide
theorem test_table_word_extended : decodeTableWord 16 0xCB37 = some .swapA := by decide

theorem test_fetch_word_runs_next :
    stepsTo (State.reset.withFetchWord 16 0xCB37) (fun t => t.a == 0x10 && t.pc == 0x0102) = true := by decide

theorem test_fetch_word_wakes :
    stepsTo ({ State.reset with locked := true }.withFetchWord 8 0x3C) (fun t => t.a == 0x02) = true := by decide

/-! ## Steps (spec/95_test_vectors.md section 2) -/

theorem test_R150_LD_B_C :
    stepsTo (place ({ State.reset with c := 0x5A }) [0x41])
      (fun t => t.b == 0x5A && t.flags == ⟨true, false, true, true⟩ && t.insM == 1) = true := by decide

theorem test_R151_LD_H_atHL :
    stepsTo (place ({ State.reset with h := 0xC0, l := 0x00 }.write8 0xC000 0x12) [0x66])
      (fun t => t.h == 0x12 && t.flags == ⟨true, false, true, true⟩ && t.insM == 2) = true := by decide

theorem test_R152_LD_atHL_H :
    stepsTo (place ({ State.reset with h := 0xC0, l := 0x00 }) [0x74])
      (fun t => t.read8 0xC000 == 0xC0 && t.flags == ⟨true, false, true, true⟩ && t.insM == 2) = true := by decide

theorem test_R153_LD_D_n :
    stepsTo (place State.reset [0x16, 0xAB])
      (fun t => t.d == 0xAB && t.flags == ⟨true, false, true, true⟩ && t.insM == 2) = true := by decide

theorem test_R154_LD_atHL_n :
    stepsTo (place ({ State.reset with h := 0xC0, l := 0x00 }) [0x36, 0x5C])
      (fun t => t.read8 0xC000 == 0x5C && t.flags == ⟨true, false, true, true⟩ && t.insM == 3) = true := by decide

theorem test_R155_LD_A_BC :
    stepsTo (place ({ State.reset with b := 0xC0, c := 0x10 }.write8 0xC010 0x42) [0x0A])
      (fun t => t.a == 0x42 && t.flags == ⟨true, false, true, true⟩ && t.insM == 2) = true := by decide

theorem test_R156_LD_A_DE :
    stepsTo (place ({ State.reset with d := 0xC0, e := 0x20 }.write8 0xC020 0x43) [0x1A])
      (fun t => t.a == 0x43 && t.flags == ⟨true, false, true, true⟩ && t.insM == 2) = true := by decide

theorem test_R157_LD_BC_A :
    stepsTo (place ({ State.reset with b := 0xC0, c := 0x10, a := 0x11 }) [0x02])
      (fun t => t.read8 0xC010 == 0x11 && t.flags == ⟨true, false, true, true⟩ && t.insM == 2) = true := by decide

theorem test_R158_LD_DE_A :
    stepsTo (place ({ State.reset with d := 0xC0, e := 0x20, a := 0x22 }) [0x12])
      (fun t => t.read8 0xC020 == 0x22 && t.flags == ⟨true, false, true, true⟩ && t.insM == 2) = true := by decide

theorem test_R159_LD_A_nn :
    stepsTo (place (State.reset.write8 0xC234 0x5E) [0xFA, 0x34, 0xC2])
      (fun t => t.a == 0x5E && t.flags == ⟨true, false, true, true⟩ && t.insM == 4) = true := by decide

theorem test_R160_LD_nn_A :
    stepsTo (place ({ State.reset with a := 0x6D }) [0xEA, 0x34, 0xC2])
      (fun t => t.read8 0xC234 == 0x6D && t.flags == ⟨true, false, true, true⟩ && t.insM == 4) = true := by decide

theorem test_R161_LDH_A_n :
    stepsTo (place (State.reset.write8 0xFF80 0x3C) [0xF0, 0x80])
      (fun t => t.a == 0x3C && t.flags == ⟨true, false, true, true⟩ && t.insM == 3) = true := by decide

theorem test_R162_LDH_n_A :
    stepsTo (place ({ State.reset with a := 0x3C }) [0xE0, 0xFF])
      (fun t => t.read8 0xFFFF == 0x3C && t.flags == ⟨true, false, true, true⟩ && t.insM == 3) = true := by decide

theorem test_R163_LD_A_C :
    stepsTo (place ({ State.reset with c := 0x44 }.write8 0xFF44 0x90) [0xF2])
      (fun t => t.a == 0x90 && t.flags == ⟨true, false, true, true⟩ && t.insM == 2) = true := by decide

theorem test_R164_LD_C_A :
    stepsTo (place ({ State.reset with c := 0x00, a := 0x30 }) [0xE2])
      (fun t => t.read8 0xFF00 == 0x30 && t.flags == ⟨true, false, true, true⟩ && t.insM == 2) = true := by decide

theorem test_R165_LD_HLinc_A :
    stepsTo (place ({ State.reset with h := 0xFF, l := 0xFF, a := 0x01 }) [0x22])
      (fun t => t.h == 0x00 && t.l == 0x00 && t.read8 0xFFFF == 0x01 && t.flags == ⟨true, false, true, true⟩ && t.insM == 2) = true := by decide

theorem test_R166_LD_HLdec_A :
    stepsTo (place ({ State.reset with h := 0xC0, l := 0x00, a := 0x02 }) [0x32])
      (fun t => t.h == 0xBF && t.l == 0xFF && t.read8 0xC000 == 0x02 && t.flags == ⟨true, false, true, true⟩ && t.insM == 2) = true := by decide

theorem test_R167_LD_A_HLinc :
    stepsTo (place ({ State.reset with h := 0xC0, l := 0x00 }.write8 0xC000 0x55) [0x2A])
      (fun t => t.a == 0x55 && t.l == 0x01 && t.flags == ⟨true, false, true, true⟩ && t.insM == 2) = true := by decide

theorem test_R168_LD_A_HLdec :
    stepsTo (place ({ State.reset with h := 0x00, l := 0x00 }.write8 0x0000 0x66) [0x3A])
      (fun t => t.a == 0x66 && t.h == 0xFF && t.l == 0xFF && t.flags == ⟨true, false, true, true⟩ && t.insM == 2) = true := by decide

theorem test_R169_LD_BC_nn :
    stepsTo (place State.reset [0x01, 0x34, 0x12])
      (fun t => t.b == 0x12 && t.c == 0x34 && t.flags == ⟨true, false, true, true⟩ && t.insM == 3) = true := by decide

theorem test_R169_LD_SP_nn :
    stepsTo (place State.reset [0x31, 0x00, 0xD0])
      (fun t => t.sp == 0xD000 && t.flags == ⟨true, false, true, true⟩ && t.insM == 3) = true := by decide

theorem test_R170_LD_nn_SP :
    stepsTo (place ({ State.reset with sp := 0xABCD }) [0x08, 0xFF, 0xFF])
      (fun t => t.read8 0x0000 == 0xAB && t.read8 0xFFFF == 0xCD && t.flags == ⟨true, false, true, true⟩ && t.insM == 5) = true := by decide

theorem test_R171_LD_SP_HL :
    stepsTo (place ({ State.reset with h := 0xC0, l := 0xDE }) [0xF9])
      (fun t => t.sp == 0xC0DE && t.flags == ⟨true, false, true, true⟩ && t.insM == 2) = true := by decide

theorem test_R172_LD_HL_SPince :
    stepsTo (place ({ State.reset with sp := 0x0005 }) [0xF8, 0xFF])
      (fun t => t.h == 0x00 && t.l == 0x04 && t.flags == ⟨false, false, true, true⟩ && t.insM == 3) = true := by decide

theorem test_R172_LD_HL_SPince_2 :
    stepsTo (place ({ State.reset with sp := 0x1000, flags := ⟨true, false, true, true⟩ }) [0xF8, 0x80])
      (fun t => t.h == 0x0F && t.l == 0x80 && t.flags == ⟨false, false, false, false⟩ && t.insM == 3) = true := by decide

theorem test_R173_PUSH_AF :
    stepsTo (place ({ State.reset with sp := 0xD000 }) [0xF5])
      (fun t => t.sp == 0xCFFE && t.read8 0xCFFE == 0xB0 && t.read8 0xCFFF == 0x01 && t.flags == ⟨true, false, true, true⟩ && t.insM == 4) = true := by decide

theorem test_R173_PUSH_DE :
    stepsTo (place ({ State.reset with d := 0xBE, e := 0xEF, sp := 0x0000 }) [0xD5])
      (fun t => t.sp == 0xFFFE && t.read8 0xFFFE == 0xEF && t.read8 0xFFFF == 0xBE && t.flags == ⟨true, false, true, true⟩ && t.insM == 4) = true := by decide

theorem test_R174_POP_BC :
    stepsTo (place (({ State.reset with sp := 0xFFFF }.write8 0xFFFF 0x11).write8 0x0000 0x22) [0xC1])
      (fun t => t.b == 0x22 && t.c == 0x11 && t.sp == 0x0001 && t.flags == ⟨true, false, true, true⟩ && t.insM == 3) = true := by decide

theorem test_R175_POP_AF :
    stepsTo (place (({ State.reset with sp := 0xCFFE }.write8 0xCFFE 0xFF).write8 0xCFFF 0x12) [0xF1])
      (fun t => t.a == 0x12 && t.sp == 0xD000 && t.flags == ⟨true, true, true, true⟩ && t.insM == 3) = true := by decide

theorem test_R175_POP_AF_2 :
    stepsTo (place (({ State.reset with sp := 0xCFFE }.write8 0xCFFE 0x0F).write8 0xCFFF 0x00) [0xF1])
      (fun t => t.a == 0x00 && t.sp == 0xD000 && t.flags == ⟨false, false, false, false⟩ && t.insM == 3) = true := by decide

theorem test_R180_ADD_A_B :
    stepsTo (place ({ State.reset with a := 0x3A, b := 0xC6 }) [0x80])
      (fun t => t.a == 0x00 && t.flags == ⟨true, false, true, true⟩ && t.insM == 1) = true := by decide

theorem test_R181_ADD_A_atHL :
    stepsTo (place ({ State.reset with a := 0x3C, h := 0xC0, l := 0x00 }.write8 0xC000 0x12) [0x86])
      (fun t => t.a == 0x4E && t.flags == ⟨false, false, false, false⟩ && t.insM == 2) = true := by decide

theorem test_R182_ADD_A_n :
    stepsTo (place ({ State.reset with a := 0xFF }) [0xC6, 0x01])
      (fun t => t.a == 0x00 && t.flags == ⟨true, false, true, true⟩ && t.insM == 2) = true := by decide

theorem test_R183_ADC_A_B :
    stepsTo (place ({ State.reset with a := 0x0F, b := 0xFF, flags := ⟨true, false, true, true⟩ }) [0x88])
      (fun t => t.flags == ⟨false, false, true, true⟩ && t.insM == 1) = true := by decide

theorem test_R184_ADC_A_atHL :
    stepsTo (place ({ State.reset with a := 0xE1, h := 0xC0, l := 0x00, flags := ⟨true, false, true, true⟩ }.write8 0xC000 0x1E) [0x8E])
      (fun t => t.a == 0x00 && t.flags == ⟨true, false, true, true⟩ && t.insM == 2) = true := by decide

theorem test_R185_ADC_A_n :
    stepsTo (place ({ State.reset with a := 0xFF, flags := ⟨true, false, true, true⟩ }) [0xCE, 0x00])
      (fun t => t.a == 0x00 && t.flags == ⟨true, false, true, true⟩ && t.insM == 2) = true := by decide

theorem test_R186_SUB_B :
    stepsTo (place ({ State.reset with a := 0x3E, b := 0x3E }) [0x90])
      (fun t => t.a == 0x00 && t.flags == ⟨true, true, false, false⟩ && t.insM == 1) = true := by decide

theorem test_R187_SUB_atHL :
    stepsTo (place ({ State.reset with a := 0x3E, h := 0xC0, l := 0x00 }.write8 0xC000 0x40) [0x96])
      (fun t => t.a == 0xFE && t.flags == ⟨false, true, false, true⟩ && t.insM == 2) = true := by decide

theorem test_R188_SUB_n :
    stepsTo (place ({ State.reset with a := 0x3E }) [0xD6, 0x0F])
      (fun t => t.a == 0x2F && t.flags == ⟨false, true, true, false⟩ && t.insM == 2) = true := by decide

theorem test_R189_SBC_A_A :
    stepsTo (place ({ State.reset with a := 0x10, flags := ⟨true, false, true, true⟩ }) [0x9F])
      (fun t => t.a == 0xFF && t.flags == ⟨false, true, true, true⟩ && t.insM == 1) = true := by decide

theorem test_R190_SBC_A_atHL :
    stepsTo (place ({ State.reset with a := 0x3B, h := 0xC0, l := 0x00, flags := ⟨true, false, true, true⟩ }.write8 0xC000 0x4F) [0x9E])
      (fun t => t.a == 0xEB && t.flags == ⟨false, true, true, true⟩ && t.insM == 2) = true := by decide

theorem test_R191_SBC_A_n :
    stepsTo (place ({ State.reset with a := 0x00, flags := ⟨true, false, true, true⟩ }) [0xDE, 0xFF])
      (fun t => t.flags == ⟨true, true, true, true⟩ && t.insM == 2) = true := by decide

theorem test_R192_AND_L :
    stepsTo (place ({ State.reset with a := 0x5A, l := 0x3F }) [0xA5])
      (fun t => t.a == 0x1A && t.flags == ⟨false, false, true, false⟩ && t.insM == 1) = true := by decide

theorem test_R193_AND_atHL :
    stepsTo (place ({ State.reset with a := 0x5A, h := 0xC0, l := 0x00 }.write8 0xC000 0x00) [0xA6])
      (fun t => t.a == 0x00 && t.flags == ⟨true, false, true, false⟩ && t.insM == 2) = true := by decide

theorem test_R194_AND_n :
    stepsTo (place ({ State.reset with a := 0xF0 }) [0xE6, 0x0F])
      (fun t => t.a == 0x00 && t.flags == ⟨true, false, true, false⟩ && t.insM == 2) = true := by decide

theorem test_R195_XOR_A :
    stepsTo (place ({ State.reset with a := 0x5A }) [0xAF])
      (fun t => t.a == 0x00 && t.flags == ⟨true, false, false, false⟩ && t.insM == 1) = true := by decide

theorem test_R196_XOR_atHL :
    stepsTo (place ({ State.reset with a := 0xFF, h := 0xC0, l := 0x00 }.write8 0xC000 0x0F) [0xAE])
      (fun t => t.a == 0xF0 && t.flags == ⟨false, false, false, false⟩ && t.insM == 2) = true := by decide

theorem test_R197_XOR_n :
    stepsTo (place ({ State.reset with a := 0x5A }) [0xEE, 0xFF])
      (fun t => t.a == 0xA5 && t.flags == ⟨false, false, false, false⟩ && t.insM == 2) = true := by decide

theorem test_R198_OR_B :
    stepsTo (place ({ State.reset with a := 0x00, b := 0x00 }) [0xB0])
      (fun t => t.flags == ⟨true, false, false, false⟩ && t.insM == 1) = true := by decide

theorem test_R199_OR_atHL :
    stepsTo (place ({ State.reset with a := 0x5A, h := 0xC0, l := 0x00 }.write8 0xC000 0x0F) [0xB6])
      (fun t => t.a == 0x5F && t.flags == ⟨false, false, false, false⟩ && t.insM == 2) = true := by decide

theorem test_R200_OR_n :
    stepsTo (place ({ State.reset with a := 0x5A }) [0xF6, 0x03])
      (fun t => t.a == 0x5B && t.flags == ⟨false, false, false, false⟩ && t.insM == 2) = true := by decide

theorem test_R201_CP_B :
    stepsTo (place ({ State.reset with a := 0x3C, b := 0x2F }) [0xB8])
      (fun t => t.flags == ⟨false, true, true, false⟩ && t.insM == 1) = true := by decide

theorem test_R202_CP_atHL :
    stepsTo (place ({ State.reset with a := 0x3C, h := 0xC0, l := 0x00 }.write8 0xC000 0x40) [0xBE])
      (fun t => t.flags == ⟨false, true, false, true⟩ && t.insM == 2) = true := by decide

theorem test_R203_CP_n :
    stepsTo (place ({ State.reset with a := 0x3C }) [0xFE, 0x3C])
      (fun t => t.flags == ⟨true, true, false, false⟩ && t.insM == 2) = true := by decide

theorem test_R204_INC_B :
    stepsTo (place ({ State.reset with b := 0x0F, flags := ⟨true, false, true, true⟩ }) [0x04])
      (fun t => t.b == 0x10 && t.flags == ⟨false, false, true, true⟩ && t.insM == 1) = true := by decide

theorem test_R205_INC_atHL :
    stepsTo (place ({ State.reset with h := 0xC0, l := 0x00 }.write8 0xC000 0xFF) [0x34])
      (fun t => t.read8 0xC000 == 0x00 && t.flags == ⟨true, false, true, true⟩ && t.insM == 3) = true := by decide

theorem test_R206_DEC_C :
    stepsTo (place ({ State.reset with c := 0x00, flags := ⟨true, false, true, false⟩ }) [0x0D])
      (fun t => t.c == 0xFF && t.flags == ⟨false, true, true, false⟩ && t.insM == 1) = true := by decide

theorem test_R207_DEC_atHL :
    stepsTo (place ({ State.reset with h := 0xC0, l := 0x00 }.write8 0xC000 0x10) [0x35])
      (fun t => t.read8 0xC000 == 0x0F && t.flags == ⟨false, true, true, true⟩ && t.insM == 3) = true := by decide

theorem test_R208_DAA :
    stepsTo (place ({ State.reset with a := 0x7D, flags := ⟨true, false, false, false⟩ }) [0x27])
      (fun t => t.a == 0x83 && t.flags == ⟨false, false, false, false⟩ && t.insM == 1) = true := by decide

theorem test_R208_DAA_2 :
    stepsTo (place ({ State.reset with a := 0x0F, flags := ⟨true, true, true, false⟩ }) [0x27])
      (fun t => t.a == 0x09 && t.flags == ⟨false, true, false, false⟩ && t.insM == 1) = true := by decide

theorem test_R209_CPL :
    stepsTo (place ({ State.reset with a := 0x35 }) [0x2F])
      (fun t => t.a == 0xCA && t.flags == ⟨true, true, true, true⟩ && t.insM == 1) = true := by decide

theorem test_R210_SCF :
    stepsTo (place ({ State.reset with flags := ⟨true, true, true, false⟩ }) [0x37])
      (fun t => t.flags == ⟨true, false, false, true⟩ && t.insM == 1) = true := by decide

theorem test_R211_CCF :
    stepsTo (place ({ State.reset with flags := ⟨true, false, true, true⟩ }) [0x3F])
      (fun t => t.flags == ⟨true, false, false, false⟩ && t.insM == 1) = true := by decide

theorem test_R212_RLCA :
    stepsTo (place ({ State.reset with a := 0x85 }) [0x07])
      (fun t => t.a == 0x0B && t.flags == ⟨false, false, false, true⟩ && t.insM == 1) = true := by decide

theorem test_R212_RLCA_2 :
    stepsTo (place ({ State.reset with a := 0x00, flags := ⟨true, false, true, true⟩ }) [0x07])
      (fun t => t.flags == ⟨false, false, false, false⟩ && t.insM == 1) = true := by decide

theorem test_R213_RRCA :
    stepsTo (place ({ State.reset with a := 0x01 }) [0x0F])
      (fun t => t.a == 0x80 && t.flags == ⟨false, false, false, true⟩ && t.insM == 1) = true := by decide

theorem test_R214_RLA :
    stepsTo (place ({ State.reset with a := 0x95, flags := ⟨true, false, true, true⟩ }) [0x17])
      (fun t => t.a == 0x2B && t.flags == ⟨false, false, false, true⟩ && t.insM == 1) = true := by decide

theorem test_R215_RRA :
    stepsTo (place ({ State.reset with a := 0x81, flags := ⟨true, false, true, false⟩ }) [0x1F])
      (fun t => t.a == 0x40 && t.flags == ⟨false, false, false, true⟩ && t.insM == 1) = true := by decide

theorem test_R220_ADD_HL_BC :
    stepsTo (place ({ State.reset with h := 0x8A, l := 0x23, b := 0x06, c := 0x05 }) [0x09])
      (fun t => t.h == 0x90 && t.l == 0x28 && t.flags == ⟨true, false, true, false⟩ && t.insM == 2) = true := by decide

theorem test_R220_ADD_HL_DE :
    stepsTo (place ({ State.reset with h := 0xFF, l := 0xFF, d := 0x00, e := 0x01, flags := ⟨false, false, true, true⟩ }) [0x19])
      (fun t => t.h == 0x00 && t.l == 0x00 && t.flags == ⟨false, false, true, true⟩ && t.insM == 2) = true := by decide

theorem test_R221_INC_DE :
    stepsTo (place ({ State.reset with d := 0xFF, e := 0xFF }) [0x13])
      (fun t => t.d == 0x00 && t.e == 0x00 && t.flags == ⟨true, false, true, true⟩ && t.insM == 2) = true := by decide

theorem test_R221_INC_SP :
    stepsTo (place ({ State.reset with sp := 0xFFFF }) [0x33])
      (fun t => t.sp == 0x0000 && t.flags == ⟨true, false, true, true⟩ && t.insM == 2) = true := by decide

theorem test_R222_DEC_BC :
    stepsTo (place ({ State.reset with b := 0x00, c := 0x00 }) [0x0B])
      (fun t => t.b == 0xFF && t.c == 0xFF && t.flags == ⟨true, false, true, true⟩ && t.insM == 2) = true := by decide

theorem test_R223_ADD_SP_e :
    stepsTo (place ({ State.reset with sp := 0xD000 }) [0xE8, 0xFE])
      (fun t => t.sp == 0xCFFE && t.flags == ⟨false, false, false, false⟩ && t.insM == 4) = true := by decide

theorem test_R223_ADD_SP_e_2 :
    stepsTo (place ({ State.reset with sp := 0x00FF }) [0xE8, 0xFF])
      (fun t => t.sp == 0x00FE && t.flags == ⟨false, false, true, true⟩ && t.insM == 4) = true := by decide

theorem test_R231_JP_nn :
    stepsTo (place State.reset [0xC3, 0x34, 0x12])
      (fun t => t.pc == 0x1234 && t.flags == ⟨true, false, true, true⟩ && t.insM == 4) = true := by decide

theorem test_R232_JP_Z_nn :
    stepsTo (place ({ State.reset with flags := ⟨false, false, true, true⟩ }) [0xCA, 0x34, 0x12])
      (fun t => t.pc == 0x0103 && t.flags == ⟨false, false, true, true⟩ && t.insM == 3) = true := by decide

theorem test_R232_JP_Z_nn_2 :
    stepsTo (place ({ State.reset with flags := ⟨true, false, true, true⟩ }) [0xCA, 0x34, 0x12])
      (fun t => t.pc == 0x1234 && t.flags == ⟨true, false, true, true⟩ && t.insM == 4) = true := by decide

theorem test_R232_JP_NC_nn :
    stepsTo (place ({ State.reset with flags := ⟨true, false, true, true⟩ }) [0xD2, 0x34, 0x12])
      (fun t => t.pc == 0x0103 && t.flags == ⟨true, false, true, true⟩ && t.insM == 3) = true := by decide

theorem test_R233_JP_HL :
    stepsTo (place ({ State.reset with h := 0xC0, l := 0x00 }) [0xE9])
      (fun t => t.pc == 0xC000 && t.flags == ⟨true, false, true, true⟩ && t.insM == 1) = true := by decide

theorem test_R234_JR_e :
    stepsTo (place State.reset [0x18, 0x80])
      (fun t => t.pc == 0x0082 && t.flags == ⟨true, false, true, true⟩ && t.insM == 3) = true := by decide

theorem test_R234_JR_e_2 :
    stepsTo (place ({ State.reset with pc := 0xFFFE }) [0x18, 0x02])
      (fun t => t.pc == 0x0002 && t.flags == ⟨true, false, true, true⟩ && t.insM == 3) = true := by decide

theorem test_R235_JR_NZ_e :
    stepsTo (place ({ State.reset with flags := ⟨false, false, true, true⟩ }) [0x20, 0xFB])
      (fun t => t.pc == 0x00FD && t.flags == ⟨false, false, true, true⟩ && t.insM == 3) = true := by decide

theorem test_R235_JR_NZ_e_2 :
    stepsTo (place ({ State.reset with flags := ⟨true, false, true, true⟩ }) [0x20, 0xFB])
      (fun t => t.pc == 0x0102 && t.flags == ⟨true, false, true, true⟩ && t.insM == 2) = true := by decide

theorem test_R236_CALL_nn :
    stepsTo (place ({ State.reset with sp := 0x0001, pc := 0x0150 }) [0xCD, 0x00, 0x20])
      (fun t => t.sp == 0xFFFF && t.pc == 0x2000 && t.read8 0x0000 == 0x01 && t.read8 0xFFFF == 0x53 && t.flags == ⟨true, false, true, true⟩ && t.insM == 6) = true := by decide

theorem test_R237_CALL_Z_nn :
    stepsTo (place ({ State.reset with pc := 0x0150, flags := ⟨true, false, true, true⟩ }) [0xCC, 0x00, 0x20])
      (fun t => t.sp == 0xFFFC && t.pc == 0x2000 && t.read8 0xFFFC == 0x53 && t.read8 0xFFFD == 0x01 && t.flags == ⟨true, false, true, true⟩ && t.insM == 6) = true := by decide

theorem test_R237_CALL_NZ_nn :
    stepsTo (place ({ State.reset with pc := 0x0150, flags := ⟨true, false, true, true⟩ }) [0xC4, 0x00, 0x20])
      (fun t => t.pc == 0x0153 && t.flags == ⟨true, false, true, true⟩ && t.insM == 3) = true := by decide

theorem test_R238_RET :
    stepsTo (place (({ State.reset with sp := 0xFFFF }.write8 0xFFFF 0x00).write8 0x0000 0x02) [0xC9])
      (fun t => t.sp == 0x0001 && t.pc == 0x0200 && t.flags == ⟨true, false, true, true⟩ && t.insM == 4) = true := by decide

theorem test_R239_RET_C :
    stepsTo (place (({ State.reset with sp := 0xFFFC, flags := ⟨true, false, true, true⟩ }.write8 0xFFFC 0x53).write8 0xFFFD 0x01) [0xD8])
      (fun t => t.sp == 0xFFFE && t.pc == 0x0153 && t.flags == ⟨true, false, true, true⟩ && t.insM == 5) = true := by decide

theorem test_R239_RET_NC :
    stepsTo (place (({ State.reset with sp := 0xFFFC, flags := ⟨true, false, true, true⟩ }.write8 0xFFFC 0x53).write8 0xFFFD 0x01) [0xD0])
      (fun t => t.pc == 0x0101 && t.flags == ⟨true, false, true, true⟩ && t.insM == 2) = true := by decide

theorem test_R240_RETI :
    stepsTo (place (({ State.reset with sp := 0xFFFC, ime := false }.write8 0xFFFC 0x53).write8 0xFFFD 0x01) [0xD9])
      (fun t => t.sp == 0xFFFE && t.pc == 0x0153 && t.ime == true && t.flags == ⟨true, false, true, true⟩ && t.insM == 4) = true := by decide

theorem test_R241_RST_28H :
    stepsTo (place ({ State.reset with pc := 0x0200 }) [0xEF])
      (fun t => t.sp == 0xFFFC && t.pc == 0x0028 && t.read8 0xFFFC == 0x01 && t.read8 0xFFFD == 0x02 && t.flags == ⟨true, false, true, true⟩ && t.insM == 4) = true := by decide

theorem test_R241_RST_38H :
    stepsTo (place ({ State.reset with sp := 0xC000, pc := 0x1234 }) [0xFF])
      (fun t => t.sp == 0xBFFE && t.pc == 0x0038 && t.read8 0xBFFE == 0x35 && t.read8 0xBFFF == 0x12 && t.flags == ⟨true, false, true, true⟩ && t.insM == 4) = true := by decide

theorem test_R251_RLC_B :
    stepsTo (place ({ State.reset with b := 0x85, flags := ⟨true, false, true, false⟩ }) [0xCB, 0x00])
      (fun t => t.b == 0x0B && t.flags == ⟨false, false, false, true⟩ && t.insM == 2) = true := by decide

theorem test_R251_RLC_A :
    stepsTo (place ({ State.reset with a := 0x00 }) [0xCB, 0x07])
      (fun t => t.flags == ⟨true, false, false, false⟩ && t.insM == 2) = true := by decide

theorem test_R252_RLC_atHL :
    stepsTo (place ({ State.reset with h := 0xC0, l := 0x00, flags := ⟨true, false, true, false⟩ }.write8 0xC000 0x80) [0xCB, 0x06])
      (fun t => t.read8 0xC000 == 0x01 && t.flags == ⟨false, false, false, true⟩ && t.insM == 4) = true := by decide

theorem test_R253_RRC_C :
    stepsTo (place ({ State.reset with c := 0x01, flags := ⟨true, false, true, false⟩ }) [0xCB, 0x09])
      (fun t => t.c == 0x80 && t.flags == ⟨false, false, false, true⟩ && t.insM == 2) = true := by decide

theorem test_R254_RRC_atHL :
    stepsTo (place ({ State.reset with h := 0xC0, l := 0x00 }.write8 0xC000 0x01) [0xCB, 0x0E])
      (fun t => t.read8 0xC000 == 0x80 && t.flags == ⟨false, false, false, true⟩ && t.insM == 4) = true := by decide

theorem test_R255_RL_D :
    stepsTo (place ({ State.reset with d := 0x80, flags := ⟨true, false, true, true⟩ }) [0xCB, 0x12])
      (fun t => t.d == 0x01 && t.flags == ⟨false, false, false, true⟩ && t.insM == 2) = true := by decide

theorem test_R256_RL_atHL :
    stepsTo (place ({ State.reset with h := 0xC0, l := 0x00, flags := ⟨true, false, true, true⟩ }.write8 0xC000 0x11) [0xCB, 0x16])
      (fun t => t.read8 0xC000 == 0x23 && t.flags == ⟨false, false, false, false⟩ && t.insM == 4) = true := by decide

theorem test_R257_RR_E :
    stepsTo (place ({ State.reset with e := 0x01, flags := ⟨true, false, true, false⟩ }) [0xCB, 0x1B])
      (fun t => t.e == 0x00 && t.flags == ⟨true, false, false, true⟩ && t.insM == 2) = true := by decide

theorem test_R258_RR_atHL :
    stepsTo (place ({ State.reset with h := 0xC0, l := 0x00, flags := ⟨true, false, true, true⟩ }.write8 0xC000 0x00) [0xCB, 0x1E])
      (fun t => t.read8 0xC000 == 0x80 && t.flags == ⟨false, false, false, false⟩ && t.insM == 4) = true := by decide

theorem test_R259_SLA_H :
    stepsTo (place ({ State.reset with h := 0xC0, l := 0x00 }) [0xCB, 0x24])
      (fun t => t.h == 0x80 && t.flags == ⟨false, false, false, true⟩ && t.insM == 2) = true := by decide

theorem test_R260_SLA_atHL :
    stepsTo (place ({ State.reset with h := 0xC0, l := 0x00 }.write8 0xC000 0x80) [0xCB, 0x26])
      (fun t => t.read8 0xC000 == 0x00 && t.flags == ⟨true, false, false, true⟩ && t.insM == 4) = true := by decide

theorem test_R261_SRA_L :
    stepsTo (place ({ State.reset with l := 0x81 }) [0xCB, 0x2D])
      (fun t => t.l == 0xC0 && t.flags == ⟨false, false, false, true⟩ && t.insM == 2) = true := by decide

theorem test_R262_SRA_atHL :
    stepsTo (place ({ State.reset with h := 0xC0, l := 0x00 }.write8 0xC000 0x01) [0xCB, 0x2E])
      (fun t => t.read8 0xC000 == 0x00 && t.flags == ⟨true, false, false, true⟩ && t.insM == 4) = true := by decide

theorem test_R263_SWAP_A :
    stepsTo (place ({ State.reset with a := 0xF0 }) [0xCB, 0x37])
      (fun t => t.a == 0x0F && t.flags == ⟨false, false, false, false⟩ && t.insM == 2) = true := by decide

theorem test_R264_SWAP_atHL :
    stepsTo (place ({ State.reset with h := 0xC0, l := 0x00 }.write8 0xC000 0xAB) [0xCB, 0x36])
      (fun t => t.read8 0xC000 == 0xBA && t.flags == ⟨false, false, false, false⟩ && t.insM == 4) = true := by decide

theorem test_R265_SRL_B :
    stepsTo (place ({ State.reset with b := 0xFF }) [0xCB, 0x38])
      (fun t => t.b == 0x7F && t.flags == ⟨false, false, false, true⟩ && t.insM == 2) = true := by decide

theorem test_R266_SRL_atHL :
    stepsTo (place ({ State.reset with h := 0xC0, l := 0x00 }.write8 0xC000 0x80) [0xCB, 0x3E])
      (fun t => t.read8 0xC000 == 0x40 && t.flags == ⟨false, false, false, false⟩ && t.insM == 4) = true := by decide

theorem test_R267_BIT_7_A :
    stepsTo (place ({ State.reset with a := 0x80, flags := ⟨false, false, true, false⟩ }) [0xCB, 0x7F])
      (fun t => t.flags == ⟨false, false, true, false⟩ && t.insM == 2) = true := by decide

theorem test_R267_BIT_0_A :
    stepsTo (place ({ State.reset with a := 0x80, flags := ⟨false, false, true, true⟩ }) [0xCB, 0x47])
      (fun t => t.flags == ⟨true, false, true, true⟩ && t.insM == 2) = true := by decide

theorem test_R268_BIT_0_atHL :
    stepsTo (place ({ State.reset with h := 0xC0, l := 0x00, flags := ⟨true, false, true, false⟩ }.write8 0xC000 0xFE) [0xCB, 0x46])
      (fun t => t.flags == ⟨true, false, true, false⟩ && t.insM == 3) = true := by decide

theorem test_R269_RES_0_A :
    stepsTo (place ({ State.reset with a := 0xFF }) [0xCB, 0x87])
      (fun t => t.a == 0xFE && t.flags == ⟨true, false, true, true⟩ && t.insM == 2) = true := by decide

theorem test_R270_RES_7_atHL :
    stepsTo (place ({ State.reset with h := 0xC0, l := 0x00 }.write8 0xC000 0xFF) [0xCB, 0xBE])
      (fun t => t.read8 0xC000 == 0x7F && t.flags == ⟨true, false, true, true⟩ && t.insM == 4) = true := by decide

theorem test_R271_SET_7_B :
    stepsTo (place ({ State.reset with b := 0x00 }) [0xCB, 0xF8])
      (fun t => t.b == 0x80 && t.flags == ⟨true, false, true, true⟩ && t.insM == 2) = true := by decide

theorem test_R272_SET_0_atHL :
    stepsTo (place ({ State.reset with h := 0xC0, l := 0x00 }.write8 0xC000 0x00) [0xCB, 0xC6])
      (fun t => t.read8 0xC000 == 0x01 && t.flags == ⟨true, false, true, true⟩ && t.insM == 4) = true := by decide

theorem test_R280_NOP :
    stepsTo (place ({ State.reset with pc := 0xFFFF }) [0x00])
      (fun t => t.pc == 0x0000 && t.flags == ⟨true, false, true, true⟩ && t.insM == 1) = true := by decide

theorem test_R281_HALT :
    stepsTo (place State.reset [0x76])
      (fun t => t.halted == true && t.flags == ⟨true, false, true, true⟩ && t.insM == 1) = true := by decide

theorem test_R282_STOP :
    stepsTo (place State.reset [0x10, 0x5A])
      (fun t => t.pc == 0x0102 && t.stopped == true && t.flags == ⟨true, false, true, true⟩ && t.insM == 1) = true := by decide

theorem test_R283_DI :
    stepsTo (place ({ State.reset with ime := true }) [0xF3])
      (fun t => t.ime == false && t.flags == ⟨true, false, true, true⟩ && t.insM == 1) = true := by decide

theorem test_R284_EI :
    stepsTo (place ({ State.reset with ime := false }) [0xFB])
      (fun t => t.ime == true && t.flags == ⟨true, false, true, true⟩ && t.insM == 1) = true := by decide

theorem test_R285_PREFIX_CB_BIT_7_H :
    stepsTo (place ({ State.reset with h := 0x80 }) [0xCB, 0x7C])
      (fun t => t.flags == ⟨false, false, true, true⟩ && t.insM == 2) = true := by decide

theorem test_R286_undefined_0xD3 :
    stepsTo (place State.reset [0xD3])
      (fun t => t.locked == true && t.flags == ⟨true, false, true, true⟩ && t.insM == 1) = true := by decide

/-! ## The loop and reset -/

/-- `run(1)` over a 6-cycle CALL returns 6 (95_test_vectors.md, R304). -/
theorem test_R304_run_overshoots :
    (match run 1 (place State.reset [0xCD, 0x00, 0x20]) with
      | .next (t, n) => n == 6 && t.pc == 0x2000 && t.sysM == 6
      | _ => false) = true := by decide

/-- `run(7)` while halted returns 7 (95_test_vectors.md, R303). -/
theorem test_R303_run_while_halted :
    (match run 7 { State.reset with halted := true } with
      | .next (t, n) => n == 7 && t.sysM == 7 && t.insM == 0
      | _ => false) = true := by decide

/-- The reset registers (V8). -/
theorem test_R345_reset : State.reset.f = 0xB0 ∧ State.reset.hl = 0x014D ∧ State.reset.sp = 0xFFFE := by decide

/-! ## Witnesses: each meets all the hypotheses of the statement it is named after -/

theorem witness_DecodeAfterEncode : Instr.wf (.callNC 0xFFFF) = true := by decide

theorem witness_EncodeAfterDecode_one_byte : decode [0xFD, 0x01] = .ok (.undefinedFD, [0x01]) := by decide

theorem witness_EncodeAfterDecode_two_bytes : decode [0xCB, 0xFF] = .ok (.set7_A, []) := by decide

theorem witness_EncodeAfterDecode_three_bytes : decode [0xFA, 0xFF, 0xFF] = .ok (.ldA_atNN 0xFFFF, []) := by decide

/-- NOP at the top of memory: PC wraps (V7). -/
theorem witness_StepRunsTheInstructionAtPC :
    { State.reset with pc := 0xFFFF }.halted = false ∧ { State.reset with pc := 0xFFFF }.stopped = false ∧
    { State.reset with pc := 0xFFFF }.locked = false ∧
    decode [{ State.reset with pc := 0xFFFF }.read8 0xFFFF, { State.reset with pc := 0xFFFF }.read8 0x0000,
      { State.reset with pc := 0xFFFF }.read8 0x0001] = .ok (.nop, [0x00, 0x00]) := by decide

theorem witness_StepRunsTheInstructionAtPC_extended :
    (place State.reset [0xCB, 0x37]).idle = false ∧
    decode [(place State.reset [0xCB, 0x37]).read8 0x0100, (place State.reset [0xCB, 0x37]).read8 0x0101,
      (place State.reset [0xCB, 0x37]).read8 0x0102] = .ok (.swapA, [0x00]) := by decide

theorem witness_IdleStep_halted : { State.reset with halted := true }.halted = true := by decide

theorem witness_IdleStep_stopped : { State.reset with stopped := true }.stopped = true := by decide

theorem witness_IdleStep_locked : { State.reset with locked := true }.locked = true := by decide

theorem witness_PopLoads_other_pair : (StackPair.hl ≠ .af) ∧ (StackPair.af = .af) := by decide

/-- The two branches of DAA at A = 0x99, the last value the first test passes. -/
theorem witness_Daa_addition : { State.reset with a := 0x99 }.flags.n = false := by decide

theorem witness_Daa_subtraction :
    { State.reset with a := 0x99, flags := ⟨false, true, true, true⟩ }.flags.n = true := by decide

/-- The reset flags (Z = 1, C = 1) make Z and C hold and NZ and NC fail. -/
theorem witness_conditional_taken_and_not_taken :
    condHolds .z State.reset.flags = true ∧ condHolds .nz State.reset.flags = false ∧
    condHolds .c State.reset.flags = true ∧ condHolds .nc State.reset.flags = false := by decide

theorem witness_PrefixStep :
    (place State.reset [0xCB, 0x00]).idle = false ∧ (place State.reset [0xCB, 0x00]).read8 0x0100 = 0xCB := by decide

theorem witness_UndefinedOpcode : Instr.undefinedD3 ∈ Instr.undefinedOpcodes := by decide

/-- A dispatched step of each kind of cost: primary, conditional taken, extended. It serves every statement about a step. -/
theorem witness_dispatched_step : ∃ t, State.reset.idle = false ∧ step State.reset = .next t := ⟨_, by decide, rfl⟩

theorem witness_dispatched_step_taken :
    ∃ t, (place State.reset [0x28, 0x10]).idle = false ∧ step (place State.reset [0x28, 0x10]) = .next t :=
  ⟨_, by decide, rfl⟩

theorem witness_dispatched_step_extended :
    ∃ t, (place State.reset [0xCB, 0x46]).idle = false ∧ step (place State.reset [0xCB, 0x46]) = .next t :=
  ⟨_, by decide, rfl⟩

theorem witness_idle_step :
    ∃ t, { State.reset with halted := true }.idle = true ∧ step { State.reset with halted := true } = .next t :=
  ⟨_, by decide, rfl⟩

/-- A state with the invariant in which memory lists a byte and the CORE is locked. -/
theorem witness_StepKeepsTheInvariant :
    Inv { State.reset with mem := [(0xFFFF, 0x01)], locked := true } ∧
    ∃ t, step { State.reset with mem := [(0xFFFF, 0x01)], locked := true } = .next t :=
  ⟨⟨by decide, by decide, by decide, by decide⟩, _, rfl⟩

theorem witness_exec_keeps_the_invariant :
    Inv State.reset ∧ State.reset.idle = false ∧ ∃ t, exec .halt State.reset = .next t :=
  ⟨⟨by decide, by decide, by decide, by decide⟩, by decide, _, rfl⟩

theorem witness_ResetMeetsTheInvariant : Memory.wf [(0x0000, 0x01), (0xFFFF, 0xFF)] = true := by decide

theorem witness_RunState : ∃ t, exec .reti State.reset = .next t := ⟨_, rfl⟩

/-- PUSH stores to 0xFFFC and 0xFFFD from SP = 0xFFFE; the byte next to them is outside. -/
theorem witness_Footprint :
    (∃ t, exec .pushBC State.reset = .next t) ∧ (0xFFFE : Word) ∉ storesOf .pushBC State.reset :=
  ⟨⟨_, rfl⟩, by decide⟩

theorem witness_Bookkeeping :
    SameButBookkeeping State.reset { State.reset with currentOpcode := 0xCB, sysM := 7 } ∧
    (∃ t, step State.reset = .next t) ∧
    ∃ t, step { State.reset with currentOpcode := 0xCB, sysM := 7 } = .next t :=
  ⟨rfl, ⟨_, rfl⟩, _, rfl⟩

theorem witness_StackRoundTrips_push_pop :
    ∃ t u, exec (.mkPush .af) State.reset = .next t ∧ exec (.mkPop .af) t = .next u := ⟨_, _, rfl, rfl⟩

theorem witness_StackRoundTrips_pop_push :
    ∃ t u, exec (.mkPop .bc) State.reset = .next t ∧ exec (.mkPush .de) t = .next u := ⟨_, _, rfl, rfl⟩

theorem witness_StackRoundTrips_call_ret :
    ∃ t u, exec (.call 0x2000) State.reset = .next t ∧ exec .ret { t with pc := 0x2001 } = .next u := ⟨_, _, rfl, rfl⟩

/-- A budget the first step already overshoots: `k` is 1 and its one shorter run is of 0 steps. -/
theorem witness_Run : (1 : BitVec 32).toNat ≠ 0 ∧ Host.Core.run Sys2Proof.core 0 State.reset = .next State.reset :=
  ⟨by decide, rfl⟩

theorem witness_IdleRun : { State.reset with stopped := true }.idle = true := by decide

theorem witness_SubThenAdd :
    ∃ t u, exec (.sub_n 0xFF) State.reset = .next t ∧ exec (.addA_n 0xFF) t = .next u := ⟨_, _, rfl, rfl⟩

theorem witness_AdcWithoutCarry : { State.reset with flags := ⟨true, false, true, false⟩ }.flags.c = false := by decide

theorem witness_RotateRoundTrips :
    (∃ t u, exec (.mkRot .rlc (.reg .a)) State.reset = .next t ∧ exec (.mkRot .rrc (.reg .a)) t = .next u) ∧
    ∃ t u, exec (.mkRot .rl (.reg .h)) State.reset = .next t ∧ exec (.mkRot .rr (.reg .h)) t = .next u :=
  ⟨⟨_, _, rfl, rfl⟩, _, _, rfl, rfl⟩

/-- 99 and 99: the largest operands. -/
theorem witness_DaaDecimal :
    { State.reset with a := 0x99 }.a = bcd 99 ∧
    (∃ t u, exec (.adcA_n (bcd 99)) { State.reset with a := 0x99 } = .next t ∧ exec .daa t = .next u) ∧
    ∃ t u, exec (.sbcA_n (bcd 99)) { State.reset with a := 0x99 } = .next t ∧ exec .daa t = .next u :=
  ⟨by decide, ⟨_, _, rfl, rfl⟩, _, _, rfl, rfl⟩

end Sys2Proof.Tests
end

section
/-! SUPPORT. The flags column of the opcode table (O48). The row an instruction stands in is the one its encoding selects
(`instrFlags`), the fetched instruction stands in the row at PC (`instrFlags_fetch`), and each family's shared operation
writes its flags as that row's letters say (`flagsAllowed`). -/

namespace Sys2Proof.Machine

open Sys2Proof

/-! ## The row an instruction stands in -/

/-- The letters of the table row that an opcode byte and the byte after it select (R106). -/
def rowFlags (b0 b1 : Byte) : FlagPattern :=
  if b0 = prefixByte then tableCell flagsColumnExtended b1 .keeps else tableCell flagsColumn b0 .keeps

/-- The letters of the row an instruction's own encoding selects. -/
def instrFlags (i : Instr) : FlagPattern := rowFlags ((encode i).getD 0 0) ((encode i).getD 1 0)

theorem State.tableFlags_eq (s : State) : s.tableFlags = rowFlags s.fetchByte0 s.fetchByte1 := rfl

/-- An instruction that 0xCB does not start stands in the primary row of its opcode byte, whatever its operand bytes. -/
theorem instrFlags_of_opcode {i : Instr} {b0 : Byte} {p : FlagPattern} (henc : (encode i).head? = some b0)
    (hb : b0 ≠ prefixByte) (hcell : tableCell flagsColumn b0 .keeps = p) : instrFlags i = p := by
  have hhead : (encode i).getD 0 0 = b0 := by
    rw [List.getD_eq_getElem?_getD, ← List.head?_eq_getElem?, henc]
    rfl
  rw [instrFlags, hhead, rowFlags, if_neg hb, hcell]

/-- The row decoded from an opcode byte is encoded with that byte, whatever operand bytes follow (R97, R98). -/
theorem encode_decodePrimary_head (b0 b1 b2 : Byte) : (encode (decodePrimary b0 b1 b2)).head? = some b0 :=
  (of_decide_eq_true rfl : ∀ b : Byte, (encode (decodePrimary b b1 b2)).head? = some b) b0

/-- The row decoded from an extended byte is encoded as 0xCB and that byte (R100). -/
theorem encode_decodeExtended (b : Byte) : encode (decodeExtended b) = [prefixByte, b] := by
  revert b
  decide

/-- A fetch gives a whole instruction: the row PREFIX CB is never dispatched alone (R285, R305). -/
theorem State.fetch_wf (s : State) : s.fetch.wf = true := by
  simp only [Instr.wf, decide_eq_true_eq]
  intro hcb
  have henc : encode s.fetch = [prefixByte] := by rw [hcb]; rfl
  rw [State.fetch, decodeBytes] at henc
  split at henc
  case isTrue => simp [encode_decodeExtended] at henc
  case isFalse hb =>
    have hhead := encode_decodePrimary_head s.fetchByte0 s.fetchByte1 s.fetchByte2
    rw [henc] at hhead
    exact hb (Option.some.inj hhead).symm

/-- The fetched instruction stands in the row that the bytes at PC select. -/
theorem instrFlags_fetch (s : State) : instrFlags s.fetch = s.tableFlags := by
  rw [State.tableFlags_eq, State.fetch, decodeBytes]
  split
  case isTrue hb =>
    rw [instrFlags, encode_decodeExtended, hb]
    rfl
  case isFalse hb => exact instrFlags_of_opcode (encode_decodePrimary_head _ _ _) hb (if_neg hb).symm

/-! ## The letters of each family -/

/-- The letters of the eight ALU operations. -/
def aluFlags : AluOp → FlagPattern
  | .add | .adc => .z0hc
  | .sub | .sbc | .cp => .z1hc
  | .and => .z010
  | .xor | .or => .z000

/-- The letters of the rotates and shifts: SWAP clears C (R125). -/
def rotFlags : RotOp → FlagPattern
  | .swap => .z000
  | _ => .z00c

/-- The letters of POP: POP AF writes all four flags (R175). -/
def popFlags : StackPair → FlagPattern
  | .af => .znhc
  | _ => .keeps

theorem instrFlags_mkLdRegReg (dst r : Reg8) : instrFlags (.mkLdRegReg dst r) = .keeps := by
  cases dst <;> cases r <;> rfl

theorem instrFlags_mkLdRegAtHL (r : Reg8) : instrFlags (.mkLdRegAtHL r) = .keeps := by cases r <;> rfl

theorem instrFlags_mkLdAtHLReg (r : Reg8) : instrFlags (.mkLdAtHLReg r) = .keeps := by cases r <;> rfl

theorem instrFlags_mkLdRegImm (r : Reg8) (n : Byte) : instrFlags (.mkLdRegImm r n) = .keeps := by
  cases r <;> exact instrFlags_of_opcode rfl (by decide) rfl

theorem instrFlags_mkAlu (op : AluOp) (src : Src8) : instrFlags (.mkAlu op src) = aluFlags op := by
  cases op <;> rcases src with (_ | _ | _ | _ | _ | _ | _) | _ | n <;>
    exact instrFlags_of_opcode rfl (by decide) rfl

theorem instrFlags_mkInc8 (o : Opnd8) : instrFlags (.mkInc8 o) = .z0hk := by
  rcases o with (_ | _ | _ | _ | _ | _ | _) | _ <;> rfl

theorem instrFlags_mkDec8 (o : Opnd8) : instrFlags (.mkDec8 o) = .z1hk := by
  rcases o with (_ | _ | _ | _ | _ | _ | _) | _ <;> rfl

theorem instrFlags_mkLdPairImm (p : Pair) (nn : Word) : instrFlags (.mkLdPairImm p nn) = .keeps := by
  cases p <;> exact instrFlags_of_opcode rfl (by decide) rfl

theorem instrFlags_mkIncPair (p : Pair) : instrFlags (.mkIncPair p) = .keeps := by cases p <;> rfl

theorem instrFlags_mkDecPair (p : Pair) : instrFlags (.mkDecPair p) = .keeps := by cases p <;> rfl

theorem instrFlags_mkAddHL (p : Pair) : instrFlags (.mkAddHL p) = .k0hc := by cases p <;> rfl

theorem instrFlags_mkPush (p : StackPair) : instrFlags (.mkPush p) = .keeps := by cases p <;> rfl

theorem instrFlags_mkPop (p : StackPair) : instrFlags (.mkPop p) = popFlags p := by cases p <;> rfl

theorem instrFlags_mkJpCond (cond : Cond) (nn : Word) : instrFlags (.mkJpCond cond nn) = .keeps := by
  cases cond <;> exact instrFlags_of_opcode rfl (by decide) rfl

theorem instrFlags_mkJrCond (cond : Cond) (e : Byte) : instrFlags (.mkJrCond cond e) = .keeps := by
  cases cond <;> exact instrFlags_of_opcode rfl (by decide) rfl

theorem instrFlags_mkCallCond (cond : Cond) (nn : Word) : instrFlags (.mkCallCond cond nn) = .keeps := by
  cases cond <;> exact instrFlags_of_opcode rfl (by decide) rfl

theorem instrFlags_mkRetCond (cond : Cond) : instrFlags (.mkRetCond cond) = .keeps := by cases cond <;> rfl

theorem instrFlags_mkRst (y : Fin 8) : instrFlags (.mkRst y) = .keeps := by fin_cases y <;> rfl

theorem instrFlags_mkRot (op : RotOp) (o : Opnd8) : instrFlags (.mkRot op o) = rotFlags op := by
  cases op <;> rcases o with (_ | _ | _ | _ | _ | _ | _) | _ <;> rfl

theorem instrFlags_mkBit (y : Fin 8) (o : Opnd8) : instrFlags (.mkBit y o) = .z01k := by
  fin_cases y <;> rcases o with (_ | _ | _ | _ | _ | _ | _) | _ <;> rfl

theorem instrFlags_mkRes (y : Fin 8) (o : Opnd8) : instrFlags (.mkRes y o) = .keeps := by
  fin_cases y <;> rcases o with (_ | _ | _ | _ | _ | _ | _) | _ <;> rfl

theorem instrFlags_mkSet (y : Fin 8) (o : Opnd8) : instrFlags (.mkSet y o) = .keeps := by
  fin_cases y <;> rcases o with (_ | _ | _ | _ | _ | _ | _) | _ <;> rfl

theorem instrFlags_undefined {i : Instr} (h : i ∈ Instr.undefinedOpcodes) : instrFlags i = .keeps := by
  revert i
  decide

/-! ## What an ALU function writes, against the letters -/

/-- `----` allows exactly the flags unchanged. -/
@[simp] theorem FlagPattern.keeps_allows {f g : Flags} : FlagPattern.keeps.Allows f g ↔ g = f := by
  obtain ⟨z, n, h, c⟩ := f
  obtain ⟨z', n', h', c'⟩ := g
  simp [FlagPattern.Allows, FlagPattern.keeps, FlagMark.Allows]

/-- Whatever the operands, an ALU operation writes its flags by the letters of its rows (R111 to R118). -/
theorem aluFunction_allowed (op : AluOp) (a b : Byte) (cin : Bool) (f : Flags) :
    (aluFlags op).Allows f (f.write (aluFunction op a b cin).2) := by
  cases op
  case add | adc | sub | sbc | cp => exact ⟨trivial, rfl, trivial, trivial⟩
  case and | xor | or => exact ⟨trivial, rfl, rfl, rfl⟩

/-- The same for the rotates and shifts (R125 to R133). -/
theorem rotFunction_allowed (op : RotOp) (v : Byte) (cin : Bool) (f : Flags) :
    (rotFlags op).Allows f (f.write (rotFunction op v cin).2) := by
  cases op
  case swap => exact ⟨trivial, rfl, rfl, rfl⟩
  all_goals exact ⟨trivial, rfl, rfl, trivial⟩

theorem inc8_allowed (v : Byte) (f : Flags) : FlagPattern.z0hk.Allows f (f.write (inc8 v).2) :=
  ⟨trivial, rfl, trivial, rfl⟩

theorem dec8_allowed (v : Byte) (f : Flags) : FlagPattern.z1hk.Allows f (f.write (dec8 v).2) :=
  ⟨trivial, rfl, trivial, rfl⟩

/-- A pop keeps the flags, but that POP AF may give them any value (R174, R175). -/
theorem setStackPair_allowed (s : State) (p : StackPair) (v : Word) :
    (popFlags p).Allows s.flags (s.setStackPair p v).flags := by
  cases p
  case af => exact ⟨trivial, trivial, trivial, trivial⟩
  all_goals exact FlagPattern.keeps_allows.mpr rfl

/-- The stores that move HL keep the flags, for either direction (R165, R166). -/
theorem ldAtHLStep_flags {delta : Word} {s t : State} (h : ldAtHLStep delta s = .next t) : t.flags = s.flags := by
  cases h
  rfl

/-! ## Every instruction -/

/-- Run on any state, the instruction leaves each flag as its row's letter says. -/
def FlagsAllowed (i : Instr) : Prop := ∀ s t : State, exec i s = .next t → (instrFlags i).Allows s.flags t.flags

/-- For an instruction whose next state is known as a function of the state it runs on. -/
theorem FlagsAllowed.of_exec {i : Instr} {p : FlagPattern} {u : State → State} (hrow : instrFlags i = p)
    (hexec : ∀ s, exec i s = .next (u s)) (hflags : ∀ s, p.Allows s.flags (u s).flags) : FlagsAllowed i := by
  intro s t h
  rw [hexec] at h
  cases h
  rw [hrow]
  exact hflags s

/-- For an instruction of a row `----`. -/
theorem FlagsAllowed.of_keeps {i : Instr} (hrow : instrFlags i = .keeps)
    (hkeep : ∀ s t : State, exec i s = .next t → t.flags = s.flags) : FlagsAllowed i := by
  intro s t h
  rw [hrow, FlagPattern.keeps_allows]
  exact hkeep s t h

/-- Every whole instruction, one case per family: its row's letters, its shared operation, and the flags that leaves. -/
theorem flagsAllowed (i : Instr) : i.wf = true → FlagsAllowed i := by
  induction i using instr_by_family
  case prefixCB => exact fun h => absurd h (by decide)
  all_goals rintro -
  -- The rows that write a flag.
  case alu op src =>
    exact .of_exec (instrFlags_mkAlu op src) (exec_mkAlu op src) fun s => aluFunction_allowed op _ _ _ _
  case rot op o =>
    exact .of_exec (instrFlags_mkRot op o) (exec_mkRot op o) fun s => by
      simpa using rotFunction_allowed op _ _ _
  case inc8 o =>
    exact .of_exec (instrFlags_mkInc8 o) (exec_mkInc8 o) fun s => by
      simpa using inc8_allowed _ _
  case dec8 o =>
    exact .of_exec (instrFlags_mkDec8 o) (exec_mkDec8 o) fun s => by
      simpa using dec8_allowed _ _
  case addHL p => exact .of_exec (instrFlags_mkAddHL p) (exec_mkAddHL p) fun s => ⟨rfl, rfl, trivial, trivial⟩
  case bit y o => exact .of_exec (instrFlags_mkBit y o) (exec_mkBit y o) fun s => ⟨trivial, rfl, rfl, rfl⟩
  case pop p => exact .of_exec (instrFlags_mkPop p) (exec_mkPop p) fun s => setStackPair_allowed _ p _
  case rlca | rrca | rla | rra => exact .of_exec (p := .p000c) rfl (fun _ => rfl) fun s => ⟨rfl, rfl, rfl, trivial⟩
  case daa => exact .of_exec (p := .zk0c) rfl (fun _ => rfl) fun s => ⟨trivial, rfl, rfl, trivial⟩
  case cpl => exact .of_exec (p := .k11k) rfl (fun _ => rfl) fun s => ⟨rfl, rfl, rfl, rfl⟩
  case scf => exact .of_exec (p := .k001) rfl (fun _ => rfl) fun s => ⟨rfl, rfl, rfl, rfl⟩
  case ccf => exact .of_exec (p := .k00c) rfl (fun _ => rfl) fun s => ⟨rfl, rfl, rfl, trivial⟩
  case addSP_e e | ldHL_SPe e =>
    exact .of_exec (p := .p00hc) (instrFlags_of_opcode rfl (by decide) rfl) (fun _ => rfl) fun s =>
      ⟨rfl, rfl, trivial, trivial⟩
  -- The families that keep every flag.
  case ldRegReg dst r => exact .of_exec (instrFlags_mkLdRegReg dst r) (exec_mkLdRegReg dst r) (by simp)
  case ldRegAtHL r => exact .of_exec (instrFlags_mkLdRegAtHL r) (exec_mkLdRegAtHL r) (by simp)
  case ldAtHLReg r => exact .of_exec (instrFlags_mkLdAtHLReg r) (exec_mkLdAtHLReg r) (by simp)
  case ldRegImm r n => exact .of_exec (instrFlags_mkLdRegImm r n) (exec_mkLdRegImm r n) (by simp)
  case ldPairImm p nn => exact .of_exec (instrFlags_mkLdPairImm p nn) (exec_mkLdPairImm p nn) (by simp)
  case incPair p => exact .of_exec (instrFlags_mkIncPair p) (exec_mkIncPair p) (by simp)
  case decPair p => exact .of_exec (instrFlags_mkDecPair p) (exec_mkDecPair p) (by simp)
  case push p => exact .of_exec (instrFlags_mkPush p) (exec_mkPush p) (by simp)
  case rst y => exact .of_exec (instrFlags_mkRst y) (exec_mkRst y) (by simp)
  case res y o => exact .of_exec (instrFlags_mkRes y o) (exec_mkRes y o) (by simp)
  case set y o => exact .of_exec (instrFlags_mkSet y o) (exec_mkSet y o) (by simp)
  case undefinedOpcode i hi => exact .of_exec (instrFlags_undefined hi) (exec_undefined hi) (by simp)
  case ldAtHLinc_A | ldAtHLdec_A => exact .of_keeps rfl fun s t h => ldAtHLStep_flags h
  -- The conditional ones keep them in both outcomes.
  case jpCond cond nn =>
    refine .of_keeps (instrFlags_mkJpCond cond nn) fun s t h => ?_
    obtain ⟨-, rfl⟩ | ⟨-, rfl⟩ := jumpCond_cases (exec_mkJpCond cond nn s ▸ h) <;> rfl
  case jrCond cond e =>
    refine .of_keeps (instrFlags_mkJrCond cond e) fun s t h => ?_
    obtain ⟨-, rfl⟩ | ⟨-, rfl⟩ := jumpRelCond_cases (exec_mkJrCond cond e s ▸ h) <;> rfl
  case callCond cond nn =>
    refine .of_keeps (instrFlags_mkCallCond cond nn) fun s t h => ?_
    obtain ⟨-, rfl⟩ | ⟨-, rfl⟩ := callCond_cases (exec_mkCallCond cond nn s ▸ h) <;> rfl
  case retCond cond =>
    refine .of_keeps (instrFlags_mkRetCond cond) fun s t h => ?_
    obtain ⟨-, rfl⟩ | ⟨-, rfl⟩ := retCond_cases (exec_mkRetCond cond s ▸ h) <;> rfl
  -- The single rows left write no flag.
  all_goals exact .of_exec (p := .keeps) (instrFlags_of_opcode rfl (by decide) rfl) (fun _ => rfl) (by simp)

/-! ## The statement -/

/-- Settles O48: a dispatched step runs the fetched instruction, whose row is the one at PC, on a state with the same
flags. -/
theorem flagsFollowTheOpcodeTableColumn : Obligations.FlagsFollowTheOpcodeTableColumn := by
  intro s t hidle hstep
  obtain ⟨hs, -⟩ | ⟨-, hexec⟩ := step_cases hstep
  · simp [hidle] at hs
  · rw [← instrFlags_fetch]
    exact flagsAllowed s.fetch s.fetch_wf s.afterFetch t hexec

end Sys2Proof.Machine
end

section
/-! SUPPORT. What the bookkeeping of R41 to R44 can influence (O49, O50). The opcode registers and the clocks are written
over as one value (`State.withBook`); every operation commutes with that, so every whole instruction does, and adds its
cost to whatever clocks it finds (`exec_withBook`). -/

namespace Sys2Proof.Machine

open Sys2Proof

/-! ## The bookkeeping as one value -/

/-- `current_opcode`, `current_extended_opcode` and the two clocks (R41 to R44). -/
structure Bookkeeping where
  currentOpcode : Byte
  currentExtendedOpcode : Byte
  sysM : Nat
  insM : Nat

/-- The bookkeeping of a state. -/
def State.book (s : State) : Bookkeeping := ⟨s.currentOpcode, s.currentExtendedOpcode, s.sysM, s.insM⟩

/-- The state with other bookkeeping and all else as it is. -/
def State.withBook (s : State) (k : Bookkeeping) : State :=
  { s with currentOpcode := k.currentOpcode, currentExtendedOpcode := k.currentExtendedOpcode,
           sysM := k.sysM, insM := k.insM }

/-- The bookkeeping after `n` machine cycles more (R300, R301). -/
def Bookkeeping.charge (k : Bookkeeping) (n : Nat) : Bookkeeping := { k with sysM := k.sysM + n, insM := k.insM + n }

theorem State.withBook_book (s : State) : s.withBook s.book = s := rfl

theorem sameButBookkeeping_iff {s u : State} : SameButBookkeeping s u ↔ u = s.withBook u.book := Iff.rfl

theorem sameButBookkeeping_withBook (s : State) (k : Bookkeeping) : SameButBookkeeping s (s.withBook k) := rfl

/-! ## The operations under it -/

theorem State.charge_withBook (s : State) (k : Bookkeeping) (n : Nat) :
    (s.withBook k).charge n = (s.charge n).withBook (k.charge n) := rfl

@[simp] theorem State.withBook_hl (s : State) (k : Bookkeeping) : (s.withBook k).hl = s.hl := rfl

@[simp] theorem State.withBook_a (s : State) (k : Bookkeeping) : (s.withBook k).a = s.a := rfl

@[simp] theorem State.withBook_flags (s : State) (k : Bookkeeping) : (s.withBook k).flags = s.flags := rfl

@[simp] theorem State.withBook_read8 (s : State) (k : Bookkeeping) (x : Word) : (s.withBook k).read8 x = s.read8 x := rfl

@[simp] theorem State.withBook_reg (s : State) (k : Bookkeeping) (r : Reg8) : (s.withBook k).reg r = s.reg r := by
  cases r <;> rfl

@[simp] theorem State.withBook_opnd (s : State) (k : Bookkeeping) (o : Opnd8) : (s.withBook k).opnd o = s.opnd o := by
  cases o with
  | reg r => exact s.withBook_reg k r
  | atHL => rfl

@[simp] theorem State.withBook_src (s : State) (k : Bookkeeping) (src : Src8) : (s.withBook k).src src = s.src src := by
  cases src with
  | reg r => exact s.withBook_reg k r
  | atHL | imm n => rfl

@[simp] theorem State.withBook_pair (s : State) (k : Bookkeeping) (p : Pair) : (s.withBook k).pair p = s.pair p := by
  cases p <;> rfl

@[simp] theorem State.withBook_stackPair (s : State) (k : Bookkeeping) (p : StackPair) :
    (s.withBook k).stackPair p = s.stackPair p := by
  cases p <;> rfl

@[simp] theorem State.setReg_withBook (s : State) (k : Bookkeeping) (r : Reg8) (v : Byte) :
    (s.withBook k).setReg r v = (s.setReg r v).withBook k := by
  cases r <;> rfl

@[simp] theorem State.setOpnd_withBook (s : State) (k : Bookkeeping) (o : Opnd8) (v : Byte) :
    (s.withBook k).setOpnd o v = (s.setOpnd o v).withBook k := by
  cases o with
  | reg r => exact s.setReg_withBook k r v
  | atHL => rfl

@[simp] theorem State.writeFlags_withBook (s : State) (k : Bookkeeping) (w : FlagWrite) :
    (s.withBook k).writeFlags w = (s.writeFlags w).withBook k := rfl

@[simp] theorem State.applyToOpnd_withBook (s : State) (k : Bookkeeping) (o : Opnd8) (out : Byte × FlagWrite) :
    (s.withBook k).applyToOpnd o out = (s.applyToOpnd o out).withBook k := by
  simp [State.applyToOpnd]

@[simp] theorem State.applyToA_withBook (s : State) (k : Bookkeeping) (out : Byte × FlagWrite) :
    (s.withBook k).applyToA out = (s.applyToA out).withBook k := rfl

@[simp] theorem State.write8_withBook (s : State) (k : Bookkeeping) (x : Word) (v : Byte) :
    (s.withBook k).write8 x v = (s.write8 x v).withBook k := rfl

@[simp] theorem State.push16_withBook (s : State) (k : Bookkeeping) (v : Word) :
    (s.withBook k).push16 v = (s.push16 v).withBook k := rfl

@[simp] theorem State.setHL_withBook (s : State) (k : Bookkeeping) (v : Word) :
    (s.withBook k).setHL v = (s.setHL v).withBook k := rfl

@[simp] theorem State.setPair_withBook (s : State) (k : Bookkeeping) (p : Pair) (v : Word) :
    (s.withBook k).setPair p v = (s.setPair p v).withBook k := by
  cases p <;> rfl

@[simp] theorem State.setStackPair_withBook (s : State) (k : Bookkeeping) (p : StackPair) (v : Word) :
    (s.withBook k).setStackPair p v = (s.setStackPair p v).withBook k := by
  cases p <;> rfl

/-! ## Every instruction -/

/-- Whatever the bookkeeping it starts from, the instruction answers the same state and adds the same cost. -/
def IgnoresBookkeeping (i : Instr) : Prop :=
  ∀ s t : State, exec i s = .next t → ∃ n, ∀ k, exec i (s.withBook k) = .next (t.withBook (k.charge n))

/-- For an instruction that updates the state, apart from the bookkeeping, and charges a fixed cost. -/
theorem IgnoresBookkeeping.of_exec {i : Instr} {u : State → State} {n : Nat}
    (hexec : ∀ s, exec i s = .next ((u s).charge n)) (hu : ∀ s k, u (s.withBook k) = (u s).withBook k) :
    IgnoresBookkeeping i := by
  intro s t h
  rw [hexec] at h
  cases h
  exact ⟨n, fun k => by rw [hexec, hu, State.charge_withBook]⟩

/-- For a conditional instruction, whose condition reads the flags alone (R230). -/
theorem IgnoresBookkeeping.of_cond {i : Instr} {cond : Cond} {u : State → State} {n m : Nat}
    (hexec : ∀ s, exec i s = if condHolds cond s.flags then .next ((u s).charge n) else .next (s.charge m))
    (hu : ∀ s k, u (s.withBook k) = (u s).withBook k) : IgnoresBookkeeping i := by
  intro s t h
  rw [hexec] at h
  split at h
  case isTrue hc =>
    cases h
    exact ⟨n, fun k => by rw [hexec, State.withBook_flags, if_pos hc, hu, State.charge_withBook]⟩
  case isFalse hc =>
    cases h
    exact ⟨m, fun k => by rw [hexec, State.withBook_flags, if_neg hc, State.charge_withBook]⟩

/-- For the stores that move HL, with the amount left open, so that no check computes with it. -/
theorem IgnoresBookkeeping.of_ldAtHLStep {i : Instr} {delta : Word} (hexec : ∀ s, exec i s = ldAtHLStep delta s) :
    IgnoresBookkeeping i :=
  .of_exec hexec fun _ _ => rfl

/-- Every whole instruction, one case per family: its shared operation commutes with writing over the bookkeeping. -/
theorem ignoresBookkeeping (i : Instr) : i.wf = true → IgnoresBookkeeping i := by
  induction i using instr_by_family
  case prefixCB => exact fun h => absurd h (by decide)
  all_goals rintro -
  case ldRegReg dst r => exact .of_exec (exec_mkLdRegReg dst r) (by simp)
  case ldRegAtHL r => exact .of_exec (exec_mkLdRegAtHL r) (by simp)
  case ldAtHLReg r => exact .of_exec (exec_mkLdAtHLReg r) (by simp)
  case ldRegImm r n => exact .of_exec (exec_mkLdRegImm r n) (by simp)
  case alu op src => exact .of_exec (exec_mkAlu op src) (by simp)
  case inc8 o => exact .of_exec (exec_mkInc8 o) (by simp)
  case dec8 o => exact .of_exec (exec_mkDec8 o) (by simp)
  case ldPairImm p nn => exact .of_exec (exec_mkLdPairImm p nn) (by simp)
  case incPair p => exact .of_exec (exec_mkIncPair p) (by simp)
  case decPair p => exact .of_exec (exec_mkDecPair p) (by simp)
  case addHL p => exact .of_exec (exec_mkAddHL p) (by simp)
  case push p => exact .of_exec (exec_mkPush p) (by simp)
  case pop p =>
    exact .of_exec (exec_mkPop p) fun s k => State.setStackPair_withBook s.pop16.2 k p s.pop16.1
  case rot op o => exact .of_exec (exec_mkRot op o) (by simp)
  case bit y o => exact .of_exec (exec_mkBit y o) (by simp)
  case res y o => exact .of_exec (exec_mkRes y o) (by simp)
  case set y o => exact .of_exec (exec_mkSet y o) (by simp)
  case rst y => exact .of_exec (exec_mkRst y) fun _ _ => rfl
  case undefinedOpcode i hi => exact .of_exec (exec_undefined hi) fun _ _ => rfl
  case jpCond cond nn => exact .of_cond (exec_mkJpCond cond nn) fun _ _ => rfl
  case jrCond cond e => exact .of_cond (exec_mkJrCond cond e) fun _ _ => rfl
  case callCond cond nn => exact .of_cond (exec_mkCallCond cond nn) fun _ _ => rfl
  case retCond cond => exact .of_cond (exec_mkRetCond cond) fun _ _ => rfl
  case ldAtHLinc_A | ldAtHLdec_A => exact .of_ldAtHLStep fun _ => rfl
  -- The single rows: their updates are the same term whatever the bookkeeping.
  all_goals exact .of_exec (fun _ => rfl) fun _ _ => rfl

/-- What a whole instruction does to the bookkeeping: a cost on both clocks and no more, the same cost and the same other
state from any other bookkeeping. -/
theorem exec_withBook {i : Instr} {s t : State} (hwf : i.wf = true) (h : exec i s = .next t) :
    ∃ n, t.book = s.book.charge n ∧ ∀ k, exec i (s.withBook k) = .next (t.withBook (k.charge n)) := by
  obtain ⟨n, hn⟩ := ignoresBookkeeping i hwf s t h
  have hself := hn s.book
  rw [State.withBook_book, h] at hself
  exact ⟨n, congrArg State.book (Host.Outcome.next.inj hself), hn⟩

/-- A step from other bookkeeping: the same next state but for it, and the same growth of the system clock. -/
theorem step_withBook {s t : State} (h : step s = .next t) (k : Bookkeeping) :
    ∃ n k', step (s.withBook k) = .next (t.withBook k') ∧ t.sysM = s.sysM + n ∧ k'.sysM = k.sysM + n := by
  rw [step_eq] at h ⊢
  split at h
  case isTrue hidle =>
    cases h
    exact ⟨1, { k with sysM := k.sysM + 1 }, if_pos hidle, rfl, rfl⟩
  case isFalse hidle =>
    obtain ⟨n, hbook, hn⟩ := exec_withBook s.fetch_wf h
    exact ⟨n, _, (if_neg hidle).trans (hn (s.withBook k).afterFetch.book), congrArg Bookkeeping.sysM hbook, rfl⟩

/-! ## The statements -/

/-- Settles O50: a step from other bookkeeping is the step of `step_withBook`. -/
theorem bookkeepingNeverInfluencesResults : Obligations.BookkeepingNeverInfluencesResults := by
  intro s u s1 u1 hsame hs hu
  rw [sameButBookkeeping_iff] at hsame
  obtain ⟨n, k', hstep, hs1, hk'⟩ := step_withBook hs u.book
  rw [← hsame, hu] at hstep
  cases hstep
  have hu1 : (s1.withBook k').sysM = u.sysM + n := hk'
  have hcost : stepCost s s1 = stepCost u (s1.withBook k') := by
    rw [stepCost, stepCost, hs1, hu1, Nat.add_sub_cancel_left, Nat.add_sub_cancel_left]
  exact ⟨sameButBookkeeping_withBook s1 k', hcost⟩

/-- Settles O49: the fetch writes the opcode registers, and the instruction leaves them as the fetch did. -/
theorem opcodeRegistersHoldTheLastFetch : Obligations.OpcodeRegistersHoldTheLastFetch := by
  refine ⟨fun s t hstep => ?_, rfl, rfl⟩
  obtain ⟨hidle, rfl⟩ | ⟨hidle, hexec⟩ := step_cases hstep
  · exact ⟨fun _ => ⟨rfl, rfl⟩, fun h => absurd hidle (by simp [h])⟩
  · obtain ⟨n, hbook, -⟩ := exec_withBook s.fetch_wf hexec
    exact ⟨fun h => absurd hidle (by simp [h]),
      fun _ => ⟨congrArg Bookkeeping.currentOpcode hbook, congrArg Bookkeeping.currentExtendedOpcode hbook⟩⟩

end Sys2Proof.Machine
end

section
/-! SUPPORT. Who writes the run state (O46). The four bits of R37 to R40 are read as one value (`State.runState`); every
instruction but those that O46 names keeps it, and one that keeps it is none of those. -/

namespace Sys2Proof.Machine

open Sys2Proof

/-! ## The run state as one value -/

/-- IME, `halted`, `stopped` and `locked` (R37 to R40). -/
@[simp] def State.runState (s : State) : Bool × Bool × Bool × Bool := (s.ime, s.halted, s.stopped, s.locked)

/-- The instruction leaves the run state as it finds it. -/
def KeepsRunState (i : Instr) : Prop := ∀ s t : State, exec i s = .next t → t.runState = s.runState

/-- The instruction writes the run state as O46 says. -/
def WritesRunStateAsNamed (i : Instr) : Prop :=
  ∀ s t : State, exec i s = .next t →
    t.ime = imeAfter i s.ime ∧ t.halted = (s.halted || decide (i = .halt)) ∧ t.stopped = (s.stopped || isStop i) ∧
    t.locked = (s.locked || decide (i ∈ Instr.undefinedOpcodes))

/-- An undefined opcode is none of the other writers. -/
theorem undefinedOpcode_writes_locked_only {i : Instr} (h : i ∈ Instr.undefinedOpcodes) (b : Bool) :
    imeAfter i b = b ∧ i ≠ .halt ∧ isStop i = false := by
  revert i b
  decide

/-! ## One that keeps it is no writer -/

section
variable {i : Instr} (hkeep : KeepsRunState i)
include hkeep

theorem KeepsRunState.ne_halt : i ≠ .halt := by
  rintro rfl
  exact absurd (hkeep State.reset _ rfl) (by decide)

theorem KeepsRunState.not_stop : isStop i = false := by
  unfold isStop
  split
  case h_1 n => exact absurd (hkeep State.reset _ rfl) (by decide)
  case h_2 => rfl

theorem KeepsRunState.not_undefined : i ∉ Instr.undefinedOpcodes := fun h =>
  absurd (hkeep State.reset _ (exec_undefined h _)) (by decide)

theorem KeepsRunState.imeAfter_eq (b : Bool) : imeAfter i b = b := by
  unfold imeAfter
  split
  case h_1 => exact absurd (hkeep { State.reset with ime := true } _ rfl) (by decide)
  case h_2 | h_3 => exact absurd (hkeep State.reset _ rfl) (by decide)
  case h_4 => rfl

/-- So for one that keeps it O46 says that nothing changes. -/
theorem KeepsRunState.writesAsNamed : WritesRunStateAsNamed i := by
  intro s t h
  obtain ⟨hime, hhalted, hstopped, hlocked⟩ : t.ime = s.ime ∧ t.halted = s.halted ∧ t.stopped = s.stopped ∧
      t.locked = s.locked := by simpa using hkeep s t h
  simp [hkeep.ne_halt, hkeep.not_stop, hkeep.not_undefined, hkeep.imeAfter_eq, hime, hhalted, hstopped, hlocked]

end

/-- For an instruction whose next state is known as a function of the state it runs on. -/
theorem WritesRunStateAsNamed.of_exec {i : Instr} {u : State → State} (hexec : ∀ s, exec i s = .next (u s))
    (hkeep : ∀ s, (u s).runState = s.runState) : WritesRunStateAsNamed i := by
  refine KeepsRunState.writesAsNamed fun s t h => ?_
  rw [hexec] at h
  cases h
  exact hkeep s

/-- For a conditional instruction. -/
theorem WritesRunStateAsNamed.of_cond {i : Instr} {cond : Cond} {u v : State → State}
    (hexec : ∀ s, exec i s = if condHolds cond s.flags then .next (u s) else .next (v s))
    (hu : ∀ s, (u s).runState = s.runState) (hv : ∀ s, (v s).runState = s.runState) : WritesRunStateAsNamed i := by
  refine KeepsRunState.writesAsNamed fun s t h => ?_
  rw [hexec] at h
  split at h <;> cases h
  · exact hu s
  · exact hv s

/-- For the stores that move HL, with the amount left open, so that no check computes with it. -/
theorem WritesRunStateAsNamed.of_ldAtHLStep {i : Instr} {delta : Word} (hexec : ∀ s, exec i s = ldAtHLStep delta s) :
    WritesRunStateAsNamed i :=
  .of_exec hexec fun _ => rfl

/-- The extended rules keep the run state, whichever the extended byte selects (R250). -/
theorem runState_execExtended {b : Byte} {s t : State} (h : execExtended b s = .next t) : t.runState = s.runState := by
  unfold execExtended at h
  split at h <;> cases h <;> simp

/-- The row PREFIX CB runs the extended rule of the byte at PC, past it (R285). -/
theorem exec_prefixCB (s : State) :
    exec .prefixCB s = execExtended (s.read8 s.pc) { s with pc := s.pc + 1, currentExtendedOpcode := s.read8 s.pc } := rfl

/-! ## Every instruction -/

/-- Every instruction, one case per family. -/
theorem writesRunStateAsNamed (i : Instr) : WritesRunStateAsNamed i := by
  induction i using instr_by_family
  -- The writers.
  case di | ei | halt | stop | reti =>
    intro s t h
    cases h
    simp [imeAfter, isStop, Instr.undefinedOpcodes]
  case undefinedOpcode i hi =>
    intro s t h
    rw [exec_undefined hi] at h
    cases h
    obtain ⟨hime, hhalt, hstop⟩ := undefinedOpcode_writes_locked_only hi s.ime
    simp [hime, hhalt, hstop, hi]
  -- The row PREFIX CB keeps it, since the extended rule it runs does (R285).
  case prefixCB =>
    refine KeepsRunState.writesAsNamed fun s t h => ?_
    rw [exec_prefixCB] at h
    simpa using runState_execExtended h
  -- The families.
  case ldRegReg dst r => exact .of_exec (exec_mkLdRegReg dst r) (by simp)
  case ldRegAtHL r => exact .of_exec (exec_mkLdRegAtHL r) (by simp)
  case ldAtHLReg r => exact .of_exec (exec_mkLdAtHLReg r) (by simp)
  case ldRegImm r n => exact .of_exec (exec_mkLdRegImm r n) (by simp)
  case alu op src => exact .of_exec (exec_mkAlu op src) (by simp)
  case inc8 o => exact .of_exec (exec_mkInc8 o) (by simp)
  case dec8 o => exact .of_exec (exec_mkDec8 o) (by simp)
  case ldPairImm p nn => exact .of_exec (exec_mkLdPairImm p nn) (by simp)
  case incPair p => exact .of_exec (exec_mkIncPair p) (by simp)
  case decPair p => exact .of_exec (exec_mkDecPair p) (by simp)
  case addHL p => exact .of_exec (exec_mkAddHL p) (by simp)
  case push p => exact .of_exec (exec_mkPush p) (by simp)
  case pop p => exact .of_exec (exec_mkPop p) (by simp)
  case rot op o => exact .of_exec (exec_mkRot op o) (by simp)
  case bit y o => exact .of_exec (exec_mkBit y o) (by simp)
  case res y o => exact .of_exec (exec_mkRes y o) (by simp)
  case set y o => exact .of_exec (exec_mkSet y o) (by simp)
  case rst y => exact .of_exec (exec_mkRst y) (by simp)
  case jpCond cond nn => exact .of_cond (exec_mkJpCond cond nn) (fun _ => rfl) fun _ => rfl
  case jrCond cond e => exact .of_cond (exec_mkJrCond cond e) (fun _ => rfl) fun _ => rfl
  case callCond cond nn => exact .of_cond (exec_mkCallCond cond nn) (fun _ => rfl) fun _ => rfl
  case retCond cond => exact .of_cond (exec_mkRetCond cond) (fun _ => rfl) fun _ => rfl
  case ldAtHLinc_A | ldAtHLdec_A => exact .of_ldAtHLStep fun _ => rfl
  -- The single rows left write no run-state bit.
  all_goals exact .of_exec (fun _ => rfl) (by simp)

/-! ## The statement -/

/-- Settles O46, by family: the named writers write what O46 says, and every other instruction keeps the run state. -/
theorem onlyTheirInstructionsWriteTheRunState : Obligations.OnlyTheirInstructionsWriteTheRunState :=
  writesRunStateAsNamed

end Sys2Proof.Machine
end

section
/-! SUPPORT. What `decode` reads at PC (O6): it looks at no byte past the length that the opcode byte fixes, so it reads
what the fetch reads, and that length is the one PC moves by. -/

namespace Sys2Proof

/-- The opcodes of two bytes, 0xCB among them (R87). -/
theorem mem_of_instrLength_eq_two {b : Byte} (h : instrLength b = 2) : b ∈ prefixByte :: formatP2 := by
  revert b
  decide

theorem instrLength_cases (b : Byte) : instrLength b = 1 ∨ instrLength b = 2 ∨ instrLength b = 3 := by
  unfold instrLength
  split_ifs <;> simp

/-- After an opcode of one byte the bytes that follow do not matter (R87). -/
theorem decodeBytes_of_length_one {b0 : Byte} (h : instrLength b0 = 1) (b1 b2 : Byte) :
    decodeBytes b0 b1 b2 = decodeBytes b0 0 0 :=
  (of_decide_eq_true rfl : ∀ b : Byte, instrLength b = 1 → decodeBytes b b1 b2 = decodeBytes b 0 0) b0 h

/-- After an opcode of two bytes the third byte does not matter (R87): opcode by opcode; 0xCB selects its row by
the second. -/
theorem decodeBytes_of_length_two {b0 : Byte} (h : instrLength b0 = 2) (b1 b2 : Byte) :
    decodeBytes b0 b1 b2 = decodeBytes b0 b1 0 := by
  have hmem := mem_of_instrLength_eq_two h
  fin_cases hmem <;> rfl

/-- `decode` of three bytes answers the instruction that they start (R107). -/
theorem eq_decodeBytes_of_decode {b0 b1 b2 : Byte} {i : Instr} {rest : List Byte}
    (h : decode [b0, b1, b2] = .ok (i, rest)) : i = decodeBytes b0 b1 b2 := by
  obtain hlen | hlen | hlen := instrLength_cases b0 <;> simp only [decode, hlen] at h <;> cases h
  · exact (decodeBytes_of_length_one hlen b1 b2).symm
  · exact (decodeBytes_of_length_two hlen b1 b2).symm
  · rfl

/-- A decoded instruction's encoding is as long as its opcode byte says (R87). -/
theorem length_encode_decodeBytes (b0 b1 b2 : Byte) : (encode (decodeBytes b0 b1 b2)).length = instrLength b0 := by
  unfold decodeBytes
  split
  case isTrue hb => rw [hb, Machine.encode_decodeExtended]; rfl
  case isFalse hb =>
    exact (of_decide_eq_true rfl : ∀ b : Byte, b ≠ prefixByte →
      (encode (decodePrimary b b1 b2)).length = instrLength b) b0 hb

end Sys2Proof

namespace Sys2Proof.Machine

open Sys2Proof

/-- Settles O6: the decoded instruction is the fetched one, and PC moves by its length. -/
theorem stepRunsTheInstructionAtPC : Obligations.StepRunsTheInstructionAtPC := by
  intro s i rest hhalted hstopped hlocked hdecode
  have hfetch : i = s.fetch := eq_decodeBytes_of_decode hdecode
  have hidle : ¬s.idle = true := by simp [State.idle, hhalted, hstopped, hlocked]
  rw [step_eq, if_neg hidle, hfetch, State.fetch, length_encode_decodeBytes]
  rfl

end Sys2Proof.Machine
end

section
/-! SUPPORT. The views of the state: F as a number and the snapshot (O53, O59). -/

namespace Sys2Proof.Machine

open Sys2Proof

/-- F's byte is its four flags at bits 7, 6, 5 and 4 (R25). -/
theorem Flags.toNat_toByte (f : Flags) :
    f.toByte.toNat = 128 * f.z.toNat + 64 * f.n.toNat + 32 * f.h.toNat + 16 * f.c.toNat := by
  obtain ⟨z, n, h, c⟩ := f
  revert z n h c
  decide

/-- Loading a snapshot brings back all but memory: F's byte gives its flags back (R26, R319). -/
theorem State.restore_snapshot (s u : State) : u.restore s.snapshot = { s with mem := u.mem } := by
  simp [State.restore, State.snapshot, State.f]

/-- Settles O53: the pairs are views of their halves by definition, and the laws of the views say the rest. -/
theorem pairsAreTheirHalves : Obligations.PairsAreTheirHalves := by
  intro s v n r q
  exact ⟨rfl, rfl, rfl, rfl, rfl, rfl, rfl, rfl, Flags.toByte_ofByte (loByte v), s.setBC_bc v, s.setDE_de v,
    s.setHL_hl v, s.setReg_reg r q n, rfl, s.flags.toNat_toByte, s.flags.toByte_low⟩

/-- Settles O59: the derived clocks are four times the stored ones by definition, and a snapshot loads as
`State.restore_snapshot` says. -/
theorem snapshotAndDerivedClocks : Obligations.SnapshotAndDerivedClocks := fun s u =>
  ⟨rfl, rfl, s.restore_snapshot u⟩

end Sys2Proof.Machine
end

section
/-! SUPPORT. What an instruction stores (O47) and what that keeps (O44, O45). The memory after any instruction is the memory
before it with bytes written at addresses of its footprint (`storesAsNamed`); such writes leave every other address as it
was, and they keep the canonical form. -/

namespace Sys2Proof.Machine

open Sys2Proof

/-! ## Memory written at some addresses -/

/-- The second memory is the first after byte writes, in some order and number, at addresses of the list. -/
inductive WrittenAt (xs : List Word) (m : Memory) : Memory → Prop where
  | refl : WrittenAt xs m m
  | set {m' : Memory} {x : Word} (v : Byte) (hx : x ∈ xs) (hm : WrittenAt xs m m') :
      WrittenAt xs m (Memory.set m' x.toNat v)

/-- Writes inside the address space keep the canonical form (R67). -/
theorem WrittenAt.wf {xs : List Word} {m m' : Memory} (h : WrittenAt xs m m') (hm : Memory.wf m = true) :
    Memory.wf m' = true := by
  induction h with
  | refl => exact hm
  | set v hx _ ih => exact Memory.wf_set _ _ v ih (toNat_lt_addressSpace _)

/-- An address that is not on the list reads as before (R67). -/
theorem WrittenAt.get_of_not_mem {xs : List Word} {m m' : Memory} (h : WrittenAt xs m m') {y : Word} (hy : y ∉ xs) :
    Memory.get m' y.toNat = Memory.get m y.toNat := by
  induction h with
  | refl => rfl
  | @set m' x v hx _ ih =>
    have hne : y.toNat ≠ x.toNat := fun e => hy (BitVec.eq_of_toNat_eq e ▸ hx)
    rw [Memory.get_set_of_ne _ v hne, ih]

theorem State.writtenAt_write8 (s : State) (x : Word) (v : Byte) : WrittenAt [x] s.mem (s.write8 x v).mem :=
  .set v (by simp) .refl

theorem State.writtenAt_write16 (s : State) (x v : Word) : WrittenAt [x, x + 1] s.mem (s.write16 x v).mem :=
  .set _ (by simp) (.set _ (by simp) .refl)

/-- The byte above the new SP is the one just below the old SP (R71). -/
theorem sub_two_add_one (x : Word) : x - 2 + 1 = x - 1 := by bv_omega

theorem State.writtenAt_push16 (s : State) (v : Word) : WrittenAt [s.sp - 2, s.sp - 1] s.mem (s.push16 v).mem := by
  rw [← sub_two_add_one]
  exact { s with sp := s.sp - 2 }.writtenAt_write16 (s.sp - 2) v

theorem State.writtenAt_setOpnd (s : State) (o : Opnd8) (v : Byte) :
    WrittenAt (opndBytes o s) s.mem (s.setOpnd o v).mem := by
  cases o with
  | reg r => rw [State.setOpnd_mem, if_neg (by simp)]; exact .refl
  | atHL => exact s.writtenAt_write8 s.hl v

/-! ## The footprint of the extended rows -/

/-- The operand that a field selects is in memory when the field is 6 (R90). -/
theorem opndBytes_r8 (z : Nat) (s : State) : opndBytes (r8 z) s = if z = 6 then [s.hl] else [] := by
  unfold r8
  split
  case h_8 hne => exact (if_neg hne).symm
  all_goals rfl

/-- The row an extended byte decodes to stores to the bytes that its fields say: (HL), except for BIT (R273). -/
theorem storesOf_decodeExtended (b : Byte) (s : State) : storesOf (decodeExtended b) s = extendedStores b s := by
  unfold decodeExtended extendedStores
  rcases opX b with _ | _ | _ | x <;>
    simp [storesOf_mkRot, storesOf_mkBit, storesOf_mkRes, storesOf_mkSet, opndBytes_r8]

/-- An extended byte decodes to a whole instruction, never to the row PREFIX CB (R250). -/
theorem decodeExtended_wf (b : Byte) : (decodeExtended b).wf = true := by
  revert b
  decide

/-! ## Every instruction -/

/-- Run on any state, the instruction writes memory at no address outside its footprint. -/
def StoresAsNamed (i : Instr) : Prop := ∀ s t : State, exec i s = .next t → WrittenAt (storesOf i s) s.mem t.mem

/-- For an instruction whose footprint and next state are known as functions of the state it runs on. -/
theorem StoresAsNamed.of_exec {i : Instr} {xs : State → List Word} {u : State → State}
    (hstores : ∀ s, storesOf i s = xs s) (hexec : ∀ s, exec i s = .next (u s))
    (hmem : ∀ s, WrittenAt (xs s) s.mem (u s).mem) : StoresAsNamed i := by
  intro s t h
  rw [hexec] at h
  cases h
  rw [hstores]
  exact hmem s

/-- For an instruction that leaves memory alone, whatever footprint it is given. -/
theorem StoresAsNamed.of_mem_eq {i : Instr} {u : State → State} (hexec : ∀ s, exec i s = .next (u s))
    (hmem : ∀ s, (u s).mem = s.mem) : StoresAsNamed i := by
  intro s t h
  rw [hexec] at h
  cases h
  rw [hmem]
  exact .refl

/-- For a conditional instruction that leaves memory alone in both outcomes. -/
theorem StoresAsNamed.of_cond {i : Instr} {cond : Cond} {u v : State → State}
    (hexec : ∀ s, exec i s = if condHolds cond s.flags then .next (u s) else .next (v s))
    (hu : ∀ s, (u s).mem = s.mem) (hv : ∀ s, (v s).mem = s.mem) : StoresAsNamed i := by
  intro s t h
  rw [hexec] at h
  split at h <;> cases h
  · rw [hu]; exact .refl
  · rw [hv]; exact .refl

/-- For the stores that move HL, with the amount left open, so that no check computes with it (R165, R166). -/
theorem StoresAsNamed.of_ldAtHLStep {i : Instr} {delta : Word} (hstores : ∀ s, storesOf i s = [s.hl])
    (hexec : ∀ s, exec i s = ldAtHLStep delta s) : StoresAsNamed i :=
  .of_exec hstores hexec fun s => s.writtenAt_write8 s.hl s.a

/-- A conditional call pushes its return address when its condition holds, and else leaves memory alone (R237). -/
theorem storesAsNamed_mkCallCond (cond : Cond) (nn : Word) : StoresAsNamed (.mkCallCond cond nn) := by
  intro s t h
  rw [storesOf_mkCallCond]
  obtain ⟨hc, rfl⟩ | ⟨-, rfl⟩ := callCond_cases (exec_mkCallCond cond nn s ▸ h)
  · rw [if_pos hc]
    exact s.writtenAt_push16 s.pc
  · exact .refl

/-- Every whole instruction, one case per family. -/
theorem storesAsNamed_of_wf (i : Instr) : i.wf = true → StoresAsNamed i := by
  induction i using instr_by_family
  case prefixCB => exact fun h => absurd h (by decide)
  all_goals rintro -
  -- The stores of one byte.
  case ldAtHLReg r =>
    exact .of_exec (storesOf_mkLdAtHLReg r) (exec_mkLdAtHLReg r) fun s => s.writtenAt_write8 s.hl (s.reg r)
  case ldAtHL_n | ldAtBC_A | ldAtDE_A | ldhAtN_A | ldAtC_A | ldAtNN_A =>
    exact .of_exec (fun _ => rfl) (fun _ => rfl) fun s => s.writtenAt_write8 _ _
  case ldAtHLinc_A | ldAtHLdec_A => exact .of_ldAtHLStep (fun _ => rfl) fun _ => rfl
  -- The operations that write an operand back.
  case inc8 o => exact .of_exec (storesOf_mkInc8 o) (exec_mkInc8 o) fun s => s.writtenAt_setOpnd o _
  case dec8 o => exact .of_exec (storesOf_mkDec8 o) (exec_mkDec8 o) fun s => s.writtenAt_setOpnd o _
  case rot op o => exact .of_exec (storesOf_mkRot op o) (exec_mkRot op o) fun s => s.writtenAt_setOpnd o _
  case res y o => exact .of_exec (storesOf_mkRes y o) (exec_mkRes y o) fun s => s.writtenAt_setOpnd o _
  case set y o => exact .of_exec (storesOf_mkSet y o) (exec_mkSet y o) fun s => s.writtenAt_setOpnd o _
  -- The stores of a word.
  case ldAtNN_SP nn => exact .of_exec (fun _ => rfl) (fun _ => rfl) fun s => s.writtenAt_write16 nn s.sp
  case push p => exact .of_exec (storesOf_mkPush p) (exec_mkPush p) fun s => s.writtenAt_push16 _
  case rst y => exact .of_exec (storesOf_mkRst y) (exec_mkRst y) fun s => s.writtenAt_push16 s.pc
  case call nn => exact .of_exec (fun _ => rfl) (fun _ => rfl) fun s => s.writtenAt_push16 s.pc
  case callCond cond nn => exact storesAsNamed_mkCallCond cond nn
  -- The families that store nothing.
  case ldRegReg dst r => exact .of_mem_eq (exec_mkLdRegReg dst r) (by simp)
  case ldRegAtHL r => exact .of_mem_eq (exec_mkLdRegAtHL r) (by simp)
  case ldRegImm r n => exact .of_mem_eq (exec_mkLdRegImm r n) (by simp)
  case alu op src => exact .of_mem_eq (exec_mkAlu op src) (by simp)
  case ldPairImm p nn => exact .of_mem_eq (exec_mkLdPairImm p nn) (by simp)
  case incPair p => exact .of_mem_eq (exec_mkIncPair p) (by simp)
  case decPair p => exact .of_mem_eq (exec_mkDecPair p) (by simp)
  case addHL p => exact .of_mem_eq (exec_mkAddHL p) (by simp)
  case pop p => exact .of_mem_eq (exec_mkPop p) (by simp)
  case bit y o => exact .of_mem_eq (exec_mkBit y o) (by simp)
  case jpCond cond nn => exact .of_cond (exec_mkJpCond cond nn) (fun _ => rfl) fun _ => rfl
  case jrCond cond e => exact .of_cond (exec_mkJrCond cond e) (fun _ => rfl) fun _ => rfl
  case retCond cond => exact .of_cond (exec_mkRetCond cond) (fun _ => rfl) fun _ => rfl
  case undefinedOpcode i hi => exact .of_mem_eq (exec_undefined hi) fun _ => rfl
  -- The single rows left store nothing.
  all_goals exact .of_mem_eq (fun _ => rfl) (by simp)

/-- The row PREFIX CB stores what the extended row of the byte at PC stores (R285). -/
theorem storesAsNamed_prefixCB : StoresAsNamed .prefixCB := by
  intro s t h
  rw [exec_prefixCB, execExtended_eq] at h
  have hstored := storesAsNamed_of_wf _ (decodeExtended_wf (s.read8 s.pc)) _ t h
  rw [storesOf_decodeExtended] at hstored
  exact hstored

/-- Every instruction writes memory inside its footprint alone. -/
theorem storesAsNamed (i : Instr) : StoresAsNamed i := by
  by_cases hcb : i = .prefixCB
  · rw [hcb]
    exact storesAsNamed_prefixCB
  · exact storesAsNamed_of_wf i (decide_eq_true hcb)

/-! ## The run states exclude each other -/

/-- The instructions that set a run state are distinct: HALT, STOP and the undefined opcodes (R281, R282, R286). -/
theorem runStateWriters_distinct (i : Instr) :
    ¬(i = .halt ∧ isStop i = true) ∧ ¬(i = .halt ∧ i ∈ Instr.undefinedOpcodes) ∧
      ¬(isStop i = true ∧ i ∈ Instr.undefinedOpcodes) := by
  refine ⟨?_, ?_, ?_⟩
  · rintro ⟨rfl, h⟩
    exact absurd h (by decide)
  · rintro ⟨rfl, h⟩
    exact absurd h (by decide)
  · rintro ⟨hstop, h⟩
    simp [(undefinedOpcode_writes_locked_only h false).2.2] at hstop

/-- Not idle is: no run state is set (R303). -/
theorem State.idle_eq_false_iff (s : State) :
    s.idle = false ↔ s.halted = false ∧ s.stopped = false ∧ s.locked = false := by
  simp [State.idle, and_assoc]

/-- With no run state set the run states exclude each other. -/
theorem runStatesExclusive_of_not_idle {s : State} (hidle : s.idle = false) : RunStatesExclusive s := by
  obtain ⟨hhalted, hstopped, hlocked⟩ := s.idle_eq_false_iff.mp hidle
  simp [RunStatesExclusive, hhalted, hstopped, hlocked]

/-- Run where no run state is set, an instruction sets at most one (R329). -/
theorem runStatesExclusive_exec {i : Instr} {s t : State} (hidle : s.idle = false) (h : exec i s = .next t) :
    RunStatesExclusive t := by
  obtain ⟨hhalted, hstopped, hlocked⟩ := s.idle_eq_false_iff.mp hidle
  obtain ⟨-, hhalted', hstopped', hlocked'⟩ := writesRunStateAsNamed i s t h
  rw [RunStatesExclusive, hhalted', hstopped', hlocked', hhalted, hstopped, hlocked]
  simpa using runStateWriters_distinct i

/-! ## The statements -/

/-- Run where no run state is set, an instruction keeps the invariant. -/
theorem inv_exec {i : Instr} {s t : State} (hinv : Inv s) (hidle : s.idle = false) (h : exec i s = .next t) : Inv t :=
  have ⟨hwf, _⟩ := hinv
  ⟨(storesAsNamed i s t h).wf hwf, runStatesExclusive_exec hidle h⟩

/-- Settles O44: an idle step touches neither memory nor a run state, and a dispatched one runs an instruction where none
is set. -/
theorem stepKeepsTheInvariant : Obligations.StepKeepsTheInvariant := by
  refine ⟨fun s t hinv hstep => ?_, fun i s t => inv_exec⟩
  obtain ⟨-, rfl⟩ | ⟨hidle, hexec⟩ := step_cases hstep
  · exact hinv
  · exact inv_exec (s := s.afterFetch) hinv hidle hexec

/-- Settles O47: an address outside the footprint is not written, so it reads as before. -/
theorem memoryChangesOnlyWhereAnInstructionStores : Obligations.MemoryChangesOnlyWhereAnInstructionStores :=
  fun i s t _ h hx => (storesAsNamed i s t h).get_of_not_mem hx

/-- Settles O45: no run state is set after a reset, and memory is empty or as it was. -/
theorem resetMeetsTheInvariant : Obligations.ResetMeetsTheInvariant :=
  ⟨⟨State.reset_mem_wf, runStatesExclusive_of_not_idle rfl⟩, rfl,
    fun _ hmem => ⟨⟨hmem, runStatesExclusive_of_not_idle rfl⟩, rfl⟩⟩

end Sys2Proof.Machine
end

section
/-! SUPPORT. Reads after writes and the stack (O52, O54, O16, O17): what a push and a pop leave, and what they undo of each
other. -/

namespace Sys2Proof.Machine

open Sys2Proof

/-! ## The bytes of a word in memory -/

/-- The low byte of a written word is at its address (R65, R70). -/
theorem State.read8_write16_low (s : State) (x v : Word) : (s.write16 x v).read8 x = loByte v := by
  have hne : x ≠ x + 1 := by bv_omega
  rw [State.read8_write16, if_neg hne, if_pos rfl]

/-- The high byte of a written word is one address up (R65, R66, R70). -/
theorem State.read8_write16_high (s : State) (x v : Word) : (s.write16 x v).read8 (x + 1) = hiByte v := by
  rw [State.read8_write16, if_pos rfl]

/-- The low byte of a pushed word is at the new SP (R71). -/
theorem State.read8_push16_low (s : State) (v : Word) : (s.push16 v).read8 (s.sp - 2) = loByte v :=
  State.read8_write16_low _ _ _

/-- The high byte of a pushed word is just below the old SP (R71). -/
theorem State.read8_push16_high (s : State) (v : Word) : (s.push16 v).read8 (s.sp - 1) = hiByte v := by
  rw [← sub_two_add_one]
  exact State.read8_write16_high _ _ _

/-- Settles O52: a byte write by `read8_write8`, and a word as its two bytes; the reset memory lists nothing. -/
theorem memoryReadsTheLastWrite : Obligations.MemoryReadsTheLastWrite := by
  refine ⟨fun s x y v => ⟨s.read8_write8 x y v, rfl⟩, fun s x v => ?_, by decide, fun _ => rfl⟩
  exact ⟨rfl, rfl, s.read16_write16 x v, s.read8_write16_low x v, s.read8_write16_high x v⟩

/-! ## Frames of the stack operations -/

/-- A push changes SP and the two bytes below it (R71). -/
theorem State.push16_unchangedExcept (s : State) (v : Word) (n : Nat) :
    UnchangedExcept { sp := true, bytes := [s.sp - 2, s.sp - 1] } n s ((s.push16 v).charge n) where
  regs r _ := by simp
  flags _ := rfl
  sp h := absurd h (by simp)
  pc _ := rfl
  ime _ := rfl
  halted _ := rfl
  stopped _ := rfl
  locked _ := rfl
  currentOpcode := rfl
  currentExtendedOpcode := rfl
  bytes x hx := s.read8_push16_of_not_mem v x hx
  insM := rfl
  sysM := rfl

/-- A register outside a stack pair keeps its value when the pair is written (R21, R92). -/
theorem State.setStackPair_reg_of_not_mem (s : State) (p : StackPair) (v : Word) {r : Reg8}
    (hr : r ∉ stackPairHalves p) : (s.setStackPair p v).reg r = s.reg r := by
  revert hr
  cases p <;> cases r <;> simp [stackPairHalves, State.reg]

/-- A pop changes the pair it loads, the flags when that is AF, and SP (R72, R174, R175). -/
theorem State.pop_unchangedExcept (s : State) (p : StackPair) (v : Word) (n : Nat) :
    UnchangedExcept { regs := stackPairHalves p, flags := p == .af, sp := true } n s
      ((s.pop16.2.setStackPair p v).charge n) where
  regs r hr := by simp [State.setStackPair_reg_of_not_mem _ p v hr]
  flags h := by
    have hp : p ≠ .af := by simpa using h
    simp [hp]
  sp h := absurd h (by simp)
  pc _ := by simp
  ime _ := by simp
  halted _ := by simp
  stopped _ := by simp
  locked _ := by simp
  currentOpcode := by simp
  currentExtendedOpcode := by simp
  bytes x _ := by simp
  insM := by simp
  sysM := by simp

/-! ## PUSH and POP -/

theorem encode_mkPush (p : StackPair) : encode (.mkPush p) = [0xC5 + 16 * stackPairIndex p] := by cases p <;> rfl

theorem encode_mkPop (p : StackPair) : encode (.mkPop p) = [0xC1 + 16 * stackPairIndex p] := by cases p <;> rfl

/-- Settles O16: PUSH is a push of the pair, and the low half of AF is F (R22, R26). -/
theorem pushStoresAPairBelowSP : Obligations.PushStoresAPairBelowSP := by
  intro p s
  refine ⟨encode_mkPush p, ⟨_, exec_mkPush p s, rfl, ?_, ?_, s.push16_unchangedExcept _ 4⟩, loByte_joinBytes _ _,
    s.flags.toByte_low⟩
  · exact s.read8_push16_low _
  · exact s.read8_push16_high _

/-- Settles O17: POP loads the pair with the word at SP, and AF keeps of it what the flags hold (R175). -/
theorem popLoadsAPairFromSP : Obligations.PopLoadsAPairFromSP := by
  intro p s
  refine ⟨encode_mkPop p, _, exec_mkPop p s, by simp, fun hp => ?_, ?_, s.pop_unchangedExcept p _ 3⟩
  · exact (State.setStackPair_stackPair s.pop16.2 p _).trans (if_neg hp)
  · rintro rfl
    have hlow : loByte s.pop16.1 = s.read8 s.sp := loByte_joinBytes _ _
    have hhigh : hiByte s.pop16.1 = s.read8 (s.sp + 1) := hiByte_joinBytes _ _
    exact ⟨hhigh, (Flags.toByte_ofByte _).trans (congrArg (· &&& 0xF0) hlow), congrArg Flags.ofByte hlow⟩

/-! ## Round trips -/

/-- Writing a pair back as it is changes nothing: AF's low bits are 0 already (R22, R26). -/
theorem State.setStackPair_self (s : State) (p : StackPair) : s.setStackPair p (s.stackPair p) = s := by
  cases p <;> simp [State.setStackPair, State.stackPair, State.setBC, State.bc, State.setDE, State.de, State.setHL,
    State.hl, State.setAF, State.af, State.f]

theorem State.pop16_charge (s : State) (n : Nat) : (s.charge n).pop16 = (s.pop16.1, s.pop16.2.charge n) := rfl

/-- PUSH then POP of one pair leaves the pushed bytes in memory, the cost on the clocks, and all else as it was (R71, R72,
R173, R174, R175). -/
theorem pop_after_push {p : StackPair} {s t u : State} (ht : exec (.mkPush p) s = .next t)
    (hu : exec (.mkPop p) t = .next u) : u = { s with mem := t.mem, insM := s.insM + 7, sysM := s.sysM + 7 } := by
  rw [exec_mkPush] at ht
  cases ht
  rw [exec_mkPop, popPair, State.pop16_charge, State.pop16_push16] at hu
  cases hu
  have hself := ({ s with mem := (s.push16 (s.stackPair p)).mem }.charge 4).setStackPair_self p
  have hpair : ({ s with mem := (s.push16 (s.stackPair p)).mem }.charge 4).stackPair p = s.stackPair p := by
    cases p <;> rfl
  rw [hpair] at hself
  exact congrArg (·.charge 3) hself

/-- PUSH after POP leaves the pushed pair where the popped word was (R71, R72). -/
theorem push_after_pop {p q : StackPair} {s t u : State} (ht : exec (.mkPop p) s = .next t)
    (hu : exec (.mkPush q) t = .next u) : u.sp = s.sp ∧ u.read16 u.sp = t.stackPair q := by
  rw [exec_mkPush] at hu
  cases hu
  have hsp : t.sp = s.sp + 2 := by
    rw [exec_mkPop] at ht
    cases ht
    simp
  refine ⟨?_, t.read16_push16 (t.stackPair q)⟩
  rw [State.charge_sp, State.push16_sp, hsp, BitVec.add_sub_cancel]

/-- RET after CALL pops the pushed address, wherever the called code has taken PC (R236, R238). -/
theorem ret_after_call {nn pc : Word} {s t u : State} (ht : exec (.call nn) s = .next t)
    (hu : exec .ret { t with pc := pc } = .next u) : u.pc = s.pc ∧ u.sp = s.sp := by
  cases ht
  cases hu
  exact ⟨s.read16_push16 s.pc, BitVec.sub_add_cancel s.sp 2⟩

/-- Settles O54, one law for each of the three round trips. -/
theorem stackRoundTrips : Obligations.StackRoundTrips :=
  ⟨fun _ _ _ _ => pop_after_push, fun _ _ _ _ _ => push_after_pop, fun _ _ _ _ _ => ret_after_call⟩

end Sys2Proof.Machine
end

section
/-! SUPPORT. Encoder and decoder against each other (O3, O4, O5, O1). Two facts tie them: the encoding of the row that
three bytes start is as many of those bytes as the first one says (`encode_decodeBytes`), and every whole instruction is
the row that its own bytes start (`startedByOwnBytes`). With them `decode` is the inverse of `encode`
(`decode_eq_ok_iff`), and the statements are its two directions. -/

namespace Sys2Proof

/-! ## Encoding the row that three bytes start, by its length (R87) -/

/-- An opcode of one byte is encoded as itself (R97). -/
theorem encode_decodeBytes_of_length_one {b0 : Byte} (h : instrLength b0 = 1) (b1 b2 : Byte) :
    encode (decodeBytes b0 b1 b2) = [b0] := by
  rw [decodeBytes_of_length_one h]
  revert b0
  decide

/-- After an opcode of two bytes the operand, or the extended byte, is kept (R97, R100): opcode by opcode. -/
theorem encode_decodeBytes_of_length_two {b0 : Byte} (h : instrLength b0 = 2) (b1 b2 : Byte) :
    encode (decodeBytes b0 b1 b2) = [b0, b1] := by
  obtain rfl | hP2 := List.mem_cons.mp (mem_of_instrLength_eq_two h)
  · exact Machine.encode_decodeExtended b1
  · fin_cases hP2 <;> rfl

/-- The opcodes of three bytes (R87). -/
theorem mem_of_instrLength_eq_three {b : Byte} (h : instrLength b = 3) : b ∈ formatP3 := by
  by_contra hb
  rw [instrLength, if_neg hb] at h
  split at h <;> cases h

/-- A word operand is encoded as the two bytes it was joined from, low byte first (R86). -/
theorem word_bytes_joinBytes (op lo hi : Byte) :
    [op, loByte (joinBytes hi lo), hiByte (joinBytes hi lo)] = [op, lo, hi] := by
  rw [loByte_joinBytes, hiByte_joinBytes]

/-- After an opcode of three bytes both operand bytes are kept (R97): opcode by opcode. -/
theorem encode_decodeBytes_of_length_three {b0 : Byte} (h : instrLength b0 = 3) (b1 b2 : Byte) :
    encode (decodeBytes b0 b1 b2) = [b0, b1, b2] := by
  have hmem := mem_of_instrLength_eq_three h
  fin_cases hmem <;> exact word_bytes_joinBytes _ b1 b2

/-- The encoding of the row that three bytes start is as many of them as the first one says (R87, R97, R100). -/
theorem encode_decodeBytes (b0 b1 b2 : Byte) :
    encode (decodeBytes b0 b1 b2) = [b0, b1, b2].take (instrLength b0) := by
  obtain h | h | h := instrLength_cases b0
  · rw [encode_decodeBytes_of_length_one h, h]; rfl
  · rw [encode_decodeBytes_of_length_two h, h]; rfl
  · rw [encode_decodeBytes_of_length_three h, h]; rfl

/-- Three bytes start a whole instruction, never the row PREFIX CB (R107, R305): that row's one byte would have to be
0xCB, and 0xCB starts two. -/
theorem decodeBytes_wf (b0 b1 b2 : Byte) : (decodeBytes b0 b1 b2).wf = true := by
  simp only [Instr.wf, decide_eq_true_eq]
  intro hcb
  have hlen : instrLength b0 = 1 := by rw [← length_encode_decodeBytes b0 b1 b2, hcb]; rfl
  have hbytes : [prefixByte] = [b0] := by rw [← encode_decodeBytes_of_length_one hlen b1 b2, hcb]; rfl
  cases hbytes
  exact absurd hlen (by decide)

/-! ## Every whole instruction is the row that its own bytes start -/

/-- Byte `k` of an instruction's encoding, and 0 past its end. -/
def Instr.byte (i : Instr) (k : Nat) : Byte := (encode i).getD k 0

/-- The row that the instruction's own bytes start is the instruction. -/
def Instr.StartedByOwnBytes (i : Instr) : Prop := decodeBytes (i.byte 0) (i.byte 1) (i.byte 2) = i

/-- For an encoding of two bytes: an operand, or an extended byte, after the opcode byte. -/
theorem Instr.StartedByOwnBytes.of_byte {i : Instr} {op n : Byte} (henc : encode i = [op, n])
    (hdec : decodeBytes op n 0 = i) : i.StartedByOwnBytes := by
  simpa [StartedByOwnBytes, byte, henc] using hdec

/-- For a row with a word operand: the decoder joins the two bytes that the encoder took it apart into (R86). -/
theorem Instr.StartedByOwnBytes.of_word {row : Word → Instr} {op : Byte} {nn : Word}
    (henc : encode (row nn) = [op, loByte nn, hiByte nn])
    (hdec : ∀ b1 b2, decodeBytes op b1 b2 = row (joinBytes b2 b1)) : (row nn).StartedByOwnBytes := by
  simp [StartedByOwnBytes, byte, henc, hdec]

/-- Every whole instruction, one case per family: the decoder reads back the fields of each of its opcodes (R98, R100). -/
theorem startedByOwnBytes (i : Instr) : i.wf = true → i.StartedByOwnBytes := by
  induction i using Machine.instr_by_family
  case prefixCB => exact fun h => absurd h (by decide)
  all_goals rintro -
  -- The rows with a word operand.
  case ldPairImm p nn => cases p <;> exact .of_word rfl fun _ _ => rfl
  case jpCond cond nn => cases cond <;> exact .of_word rfl fun _ _ => rfl
  case callCond cond nn => cases cond <;> exact .of_word rfl fun _ _ => rfl
  case ldAtNN_SP | ldAtNN_A | ldA_atNN | jp | call => exact .of_word rfl fun _ _ => rfl
  -- The rows with one operand byte.
  case ldRegImm r n => cases r <;> exact .of_byte rfl rfl
  case jrCond cond e => cases cond <;> exact .of_byte rfl rfl
  case stop | ldHL_SPe | addSP_e | ldhAtN_A | ldhA_atN | ldAtHL_n | jr => exact .of_byte rfl rfl
  case alu op src =>
    rcases src with r | _ | n
    case imm => cases op <;> exact .of_byte rfl rfl
    case atHL => cases op <;> rfl
    case reg => cases op <;> cases r <;> rfl
  -- The other families: their fields are all in the opcode, or in the extended byte.
  case ldRegReg dst r => cases dst <;> cases r <;> rfl
  case ldRegAtHL r => cases r <;> rfl
  case ldAtHLReg r => cases r <;> rfl
  case inc8 o | dec8 o => rcases o with (_ | _ | _ | _ | _ | _ | _) | _ <;> rfl
  case incPair p | decPair p | addHL p => cases p <;> rfl
  case push p | pop p => cases p <;> rfl
  case retCond cond => cases cond <;> rfl
  case rst y => fin_cases y <;> rfl
  case rot op o => cases op <;> rcases o with (_ | _ | _ | _ | _ | _ | _) | _ <;> rfl
  case bit y o | res y o | set y o => fin_cases y <;> rcases o with (_ | _ | _ | _ | _ | _ | _) | _ <;> rfl
  case undefinedOpcode i hi => fin_cases hi <;> rfl
  -- The single rows.
  all_goals rfl

/-! ## `decode` is the inverse of `encode` -/

/-- `decode` reads the bytes that the length fixed by the first byte says, and leaves the rest (R87, R107). -/
theorem decode_take_append (b0 b1 b2 : Byte) (rest : List Byte) :
    decode ([b0, b1, b2].take (instrLength b0) ++ rest) = .ok (decodeBytes b0 b1 b2, rest) := by
  obtain h | h | h := instrLength_cases b0 <;> simp only [h, List.take, List.cons_append, List.nil_append, decode]
  · rw [decodeBytes_of_length_one h b1 b2]
  · rw [decodeBytes_of_length_two h b1 b2]

/-- Whatever `decode` answers, it answers it to that instruction's bytes with the rest behind them. -/
theorem decode_eq_ok_iff {bytes rest : List Byte} {i : Instr} :
    decode bytes = .ok (i, rest) ↔ (∃ b0 b1 b2, decodeBytes b0 b1 b2 = i) ∧ bytes = encode i ++ rest := by
  constructor
  · intro h
    unfold decode at h
    split at h
    case h_1 => cases h
    case h_2 b0 tail =>
      split at h <;> cases h <;> refine ⟨⟨_, _, _, rfl⟩, ?_⟩
      case h_1 hlen => rw [encode_decodeBytes_of_length_one hlen]; rfl
      case h_2 hlen => rw [encode_decodeBytes_of_length_two hlen]; rfl
      case h_3 hlen => rw [encode_decodeBytes_of_length_three hlen]; rfl
  · rintro ⟨⟨b0, b1, b2, rfl⟩, rfl⟩
    rw [encode_decodeBytes, decode_take_append]

/-- A whole instruction's bytes decode to it, whatever follows. -/
theorem decode_encode {i : Instr} (hwf : i.wf = true) (rest : List Byte) : decode (encode i ++ rest) = .ok (i, rest) :=
  decode_eq_ok_iff.mpr ⟨⟨_, _, _, startedByOwnBytes i hwf⟩, rfl⟩

/-- The same for a word written out from the maps, with nothing behind it. -/
theorem decode_of_encode_eq {i : Instr} {bytes : List Byte} (hwf : i.wf = true) (henc : encode i = bytes) :
    decode bytes = .ok (i, []) := by
  rw [← henc, ← decode_encode hwf [], List.append_nil]

/-! ## The statements -/

/-- Settles O3: every whole instruction is the row that its own bytes start. -/
theorem decodeAfterEncodeGivesTheInstruction : Obligations.DecodeAfterEncodeGivesTheInstruction :=
  fun _ rest hwf => decode_encode hwf rest

/-- Settles O4: three bytes hold the encoding of the row they start, and `decode` answers to an encoding alone. -/
theorem encodeAfterDecodeGivesTheBytes : Obligations.EncodeAfterDecodeGivesTheBytes := by
  refine ⟨fun b0 b1 b2 rest => ?_, fun bytes rest i h => ?_⟩
  · have hbytes : b0 :: b1 :: b2 :: rest =
        encode (decodeBytes b0 b1 b2) ++ ([b0, b1, b2].drop (instrLength b0) ++ rest) := by
      rw [encode_decodeBytes, ← List.append_assoc, List.take_append_drop]
      rfl
    exact ⟨_, _, decode_eq_ok_iff.mpr ⟨⟨b0, b1, b2, rfl⟩, hbytes⟩⟩
  · obtain ⟨⟨b0, b1, b2, rfl⟩, hbytes⟩ := decode_eq_ok_iff.mp h
    have hlen := instrLength_cases b0
    rw [length_encode_decodeBytes]
    exact ⟨decodeBytes_wf b0 b1 b2, hbytes, by omega, by omega⟩

/-- Settles O5: the length is `instrLength` of the first byte, whose lists are those of R87. -/
theorem lengthIsFixedByTheFirstByte : Obligations.LengthIsFixedByTheFirstByte := by
  intro b0 b1 b2
  have hP2X2 : (b0 ∈ formatP2 ∨ b0 = prefixByte) ↔ b0 ∈ formatP2 ++ [prefixByte] := by
    rw [List.mem_append, List.mem_singleton]
  rw [length_encode_decodeBytes, instrLength]
  simp only [hP2X2]
  rfl

/-- Settles O1: the words are the encodings of their instructions; the last list ends inside a CALL. -/
theorem mapWordsDecodeToTheirInstructions : Obligations.MapWordsDecodeToTheirInstructions := by
  unfold Obligations.MapWordsDecodeToTheirInstructions
  and_intros
  on_goal 22 => rfl
  all_goals exact decode_of_encode_eq rfl rfl

end Sys2Proof
end

section
/-! SUPPORT. The fields of the encoding and the operands they name (O2). -/

namespace Sys2Proof.Machine

open Sys2Proof

/-- Settles O2, table by table: each field is defined by its index, and the two uses of the fields that act on the state,
(HL) and the conditions, are the accessors named. -/
theorem encodingFieldsNameTheirOperands : Obligations.EncodingFieldsNameTheirOperands := by
  have hAtHL (s : State) (v : Byte) : s.opnd .atHL = s.read8 s.hl ∧ s.setOpnd .atHL v = s.write8 s.hl v := ⟨rfl, rfl⟩
  have hcond (f : Flags) :
      condHolds .nz f = !f.z ∧ condHolds .z f = f.z ∧ condHolds .nc f = !f.c ∧ condHolds .c f = f.c :=
    ⟨rfl, rfl, rfl, rfl⟩
  have hbytes (n1 n2 : Byte) : decodePrimary 0x81 n1 n2 = .addA_C ∧ decodePrimary 0x0E n1 n2 = .ldC_n n1 ∧
      decodePrimary 0x3E n1 n2 = .ldA_n n1 := ⟨rfl, rfl, rfl⟩
  exact ⟨rfl, hAtHL, rfl, rfl, rfl, hcond, rfl, rfl, hbytes⟩

end Sys2Proof.Machine
end

section
/-! SUPPORT. Nothing stops the machine (O42): the shared operation of every family answers a next state. -/

namespace Sys2Proof.Machine

open Sys2Proof

/-- Run on any state, the instruction answers a next state. -/
def AnswersNext (i : Instr) : Prop := ∀ s : State, ∃ t, exec i s = .next t

/-- For an instruction whose next state is known as a function of the state it runs on. -/
theorem AnswersNext.of_exec {i : Instr} {u : State → State} (hexec : ∀ s, exec i s = .next (u s)) : AnswersNext i :=
  fun s => ⟨u s, hexec s⟩

/-- For a conditional instruction, which answers a next state in either outcome (R230). -/
theorem AnswersNext.of_cond {i : Instr} {cond : Cond} {u v : State → State}
    (hexec : ∀ s, exec i s = if condHolds cond s.flags then .next (u s) else .next (v s)) : AnswersNext i :=
  .of_exec (u := fun s => if condHolds cond s.flags then u s else v s) fun s => by
    rw [hexec]
    split <;> rfl

/-- Every extended rule answers a next state (R250). -/
theorem execExtended_answers (b : Byte) (s : State) : ∃ t, execExtended b s = .next t := by
  unfold execExtended
  split <;> exact ⟨_, rfl⟩

/-- Every instruction, one case per family. -/
theorem answersNext (i : Instr) : AnswersNext i := by
  induction i using instr_by_family
  case ldRegReg dst r => exact .of_exec (exec_mkLdRegReg dst r)
  case ldRegAtHL r => exact .of_exec (exec_mkLdRegAtHL r)
  case ldAtHLReg r => exact .of_exec (exec_mkLdAtHLReg r)
  case ldRegImm r n => exact .of_exec (exec_mkLdRegImm r n)
  case alu op src => exact .of_exec (exec_mkAlu op src)
  case inc8 o => exact .of_exec (exec_mkInc8 o)
  case dec8 o => exact .of_exec (exec_mkDec8 o)
  case ldPairImm p nn => exact .of_exec (exec_mkLdPairImm p nn)
  case incPair p => exact .of_exec (exec_mkIncPair p)
  case decPair p => exact .of_exec (exec_mkDecPair p)
  case addHL p => exact .of_exec (exec_mkAddHL p)
  case push p => exact .of_exec (exec_mkPush p)
  case pop p => exact .of_exec (exec_mkPop p)
  case rot op o => exact .of_exec (exec_mkRot op o)
  case bit y o => exact .of_exec (exec_mkBit y o)
  case res y o => exact .of_exec (exec_mkRes y o)
  case set y o => exact .of_exec (exec_mkSet y o)
  case rst y => exact .of_exec (exec_mkRst y)
  case jpCond cond nn => exact .of_cond (exec_mkJpCond cond nn)
  case jrCond cond e => exact .of_cond (exec_mkJrCond cond e)
  case callCond cond nn => exact .of_cond (exec_mkCallCond cond nn)
  case retCond cond => exact .of_cond (exec_mkRetCond cond)
  case undefinedOpcode i hi => exact .of_exec (exec_undefined hi)
  case prefixCB => exact fun s => execExtended_answers _ _
  -- The single rows: each rule is the one next state it names.
  all_goals exact .of_exec fun _ => rfl

/-- Settles O42: a step is idle or runs the fetched instruction, and every instruction answers a next state. -/
theorem nothingEverStops : Obligations.NothingEverStops := by
  refine ⟨answersNext, fun s => ?_⟩
  rw [step_eq]
  split
  case isTrue => exact ⟨s.idleStep, rfl⟩
  case isFalse => exact answersNext s.fetch s.afterFetch

end Sys2Proof.Machine
end

section
/-! SUPPORT. Frames by construction: one rule per update of the state for what it adds to `UnchangedExcept`, so that the
frame of an operation follows the updates it is made of. -/

namespace Sys2Proof.Machine

open Sys2Proof

/-! ## One rule per update -/

theorem UnchangedExcept.refl (s : State) : UnchangedExcept {} 0 s s where
  regs _ _ := rfl
  flags _ := rfl
  sp _ := rfl
  pc _ := rfl
  ime _ := rfl
  halted _ := rfl
  stopped _ := rfl
  locked _ := rfl
  currentOpcode := rfl
  currentExtendedOpcode := rfl
  bytes _ _ := rfl
  insM := rfl
  sysM := rfl

section
variable {w : MayWrite} {k : Nat} {s t : State}

theorem UnchangedExcept.setReg (h : UnchangedExcept w k s t) (r : Reg8) (v : Byte) :
    UnchangedExcept { w with regs := r :: w.regs } k s (t.setReg r v) := by
  have hregs (q : Reg8) (hq : q ∉ r :: w.regs) : (t.setReg r v).reg q = s.reg q := by
    obtain ⟨hne, hmem⟩ := List.ne_and_not_mem_of_not_mem_cons hq
    rw [State.setReg_reg, if_neg hne, h.regs q hmem]
  cases r <;> exact { h with regs := hregs }

theorem UnchangedExcept.writeFlags (h : UnchangedExcept w k s t) (f : FlagWrite) :
    UnchangedExcept { w with flags := true } k s (t.writeFlags f) :=
  { h with flags := fun hf => absurd hf (by simp) }

theorem UnchangedExcept.setSP (h : UnchangedExcept w k s t) (v : Word) :
    UnchangedExcept { w with sp := true } k s { t with sp := v } :=
  { h with sp := fun hsp => absurd hsp (by simp) }

theorem UnchangedExcept.write8 (h : UnchangedExcept w k s t) (x : Word) (v : Byte) :
    UnchangedExcept { w with bytes := x :: w.bytes } k s (t.write8 x v) :=
  { h with
    bytes := fun y hy => by
      obtain ⟨hne, hmem⟩ := List.ne_and_not_mem_of_not_mem_cons hy
      rw [State.read8_write8, if_neg hne, h.bytes y hmem] }

/-- The cost of an instruction is charged once, after its updates. -/
theorem UnchangedExcept.charge (h : UnchangedExcept w 0 s t) (n : Nat) : UnchangedExcept w n s (t.charge n) :=
  { h with
    insM := congrArg (· + n) h.insM
    sysM := congrArg (· + n) h.sysM }

end

/-! ## The shared operations -/

theorem State.applyToA_unchangedExcept (s : State) (out : Byte × FlagWrite) :
    UnchangedExcept { regs := [.a], flags := true } 0 s (s.applyToA out) :=
  ((UnchangedExcept.refl s).setReg .a out.1).writeFlags out.2

theorem State.setOpnd_unchangedExcept (s : State) (o : Opnd8) (v : Byte) :
    UnchangedExcept { regs := opndRegs o, bytes := opndBytes o s } 0 s (s.setOpnd o v) := by
  cases o with
  | reg r => exact (UnchangedExcept.refl s).setReg r v
  | atHL => exact (UnchangedExcept.refl s).write8 s.hl v

theorem State.applyToOpnd_unchangedExcept (s : State) (o : Opnd8) (out : Byte × FlagWrite) :
    UnchangedExcept { regs := opndRegs o, flags := true, bytes := opndBytes o s } 0 s (s.applyToOpnd o out) :=
  (s.setOpnd_unchangedExcept o out.1).writeFlags out.2

theorem State.setPair_unchangedExcept (s : State) (p : Pair) (v : Word) :
    UnchangedExcept { regs := pairHalves p, sp := p == .sp } 0 s (s.setPair p v) := by
  cases p with
  | bc => exact ((UnchangedExcept.refl s).setReg .c (loByte v)).setReg .b (hiByte v)
  | de => exact ((UnchangedExcept.refl s).setReg .e (loByte v)).setReg .d (hiByte v)
  | hl => exact ((UnchangedExcept.refl s).setReg .l (loByte v)).setReg .h (hiByte v)
  | sp => exact (UnchangedExcept.refl s).setSP v

end Sys2Proof.Machine
end

section
/-! SUPPORT. The eight ALU operations (O18 to O23): each function's result in word arithmetic, and the frame that all of
them share. -/

namespace Sys2Proof.Machine

open Sys2Proof

/-! ## The functions of 41_alu.md as word arithmetic -/

theorem carryIn_eq_toNat (c : Bool) : carryIn c = c.toNat := by cases c <;> rfl

/-- The sum is the sum of the bytes modulo 256 (R111). -/
theorem add8_fst (a b : Byte) : (add8 a b).1 = a + b := by
  apply BitVec.eq_of_toNat_eq
  simp [add8]

/-- The sum with carry, in numbers (R112). -/
theorem toNat_adc8 (a b : Byte) (cin : Bool) : (adc8 a b cin).1.toNat = (a.toNat + b.toNat + cin.toNat) % 256 := by
  simp [adc8, carryIn_eq_toNat]

/-- Without a carry-in ADC's function is ADD's, which looks at no carry (R111, R112). -/
theorem aluFunction_adc_false (a b : Byte) (cin : Bool) : aluFunction .adc a b false = aluFunction .add a b cin := rfl

/-- The difference, in numbers; 256 keeps their subtraction above 0 (R113). -/
theorem toNat_sub8 (a b : Byte) : (sub8 a b).1.toNat = (a.toNat + 256 - b.toNat) % 256 := by
  have hb := b.isLt
  simp only [sub8, BitVec.toNat_ofInt]
  omega

/-- The difference is the difference of the bytes modulo 256 (R113). -/
theorem sub8_fst (a b : Byte) : (sub8 a b).1 = a - b := by
  have hb := b.isLt
  apply BitVec.eq_of_toNat_eq
  rw [toNat_sub8, BitVec.toNat_sub]
  omega

/-- The difference less the carry, in numbers; 512 keeps their subtraction above 0 (R114). -/
theorem toNat_sbc8 (a b : Byte) (cin : Bool) :
    (sbc8 a b cin).1.toNat = (a.toNat + 512 - b.toNat - cin.toNat) % 256 := by
  have hb := b.isLt
  have hcin := cin.toNat_le
  simp only [sbc8, BitVec.toNat_ofInt, carryIn_eq_toNat]
  omega

/-- SUB and CP set Z exactly when the operands are equal (R113, R118). -/
theorem sub8_fst_eq_zero_iff (a b : Byte) : (sub8 a b).1 = 0 ↔ a = b := by
  rw [sub8_fst, sub_eq_zero]

/-! ## The instructions -/

/-- The encodings of every ALU operation (R97). -/
theorem aluEncoded (op : AluOp) : AluEncoded op := by
  refine ⟨fun r => ?_, ?_, fun n => ?_⟩
  · cases op <;> cases r <;> rfl
  · cases op <;> rfl
  · cases op <;> rfl

theorem srcCycles_eq_aluCycles (src : Src8) : srcCycles src = aluCycles src := by cases src <;> rfl

/-- The state an ALU operation answers. -/
def State.afterAlu (s : State) (op : AluOp) (src : Src8) : State :=
  (s.applyToA (aluFunction op s.a (s.src src) s.flags.c)).charge (aluCycles src)

theorem exec_mkAlu_eq_afterAlu (op : AluOp) (src : Src8) (s : State) :
    exec (.mkAlu op src) s = .next (s.afterAlu op src) := by
  rw [exec_mkAlu, aluOp, srcCycles_eq_aluCycles, State.afterAlu]

theorem State.afterAlu_unchangedExcept (s : State) (op : AluOp) (src : Src8) :
    UnchangedExcept { regs := [.a], flags := true } (aluCycles src) s (s.afterAlu op src) :=
  (s.applyToA_unchangedExcept _).charge _

/-- CP writes A with its own value, so that only the flags change (R118). -/
theorem State.afterAlu_cp_unchangedExcept (s : State) (src : Src8) :
    UnchangedExcept { flags := true } (aluCycles src) s (s.afterAlu .cp src) :=
  ((UnchangedExcept.refl s).writeFlags (cp8 s.a (s.src src))).charge _

/-! ## The statements -/

/-- Settles O18: the flags are those of R111 as it writes them, and a byte made of a sum is the sum modulo 256. -/
theorem addSetsResultAndFlags : Obligations.AddSetsResultAndFlags := by
  refine ⟨aluEncoded .add, fun src s => ⟨_, exec_mkAlu_eq_afterAlu .add src s, ?_, rfl, s.afterAlu_unchangedExcept _ _⟩⟩
  exact BitVec.toNat_ofNat _ 8

/-- Settles O19: the carry-in is the number that the flag is, in the sum and in both carries. -/
theorem adcSetsResultAndFlags : Obligations.AdcSetsResultAndFlags := by
  refine ⟨aluEncoded .adc, fun src s => ⟨_, exec_mkAlu_eq_afterAlu .adc src s, ?_, ?_, s.afterAlu_unchangedExcept _ _⟩⟩
  · exact toNat_adc8 _ _ _
  · rw [← carryIn_eq_toNat]
    rfl

/-- Settles O20: the flags are those of R113 as it writes them, and `toNat_sub8` gives the difference. -/
theorem subSetsResultAndFlags : Obligations.SubSetsResultAndFlags := by
  refine ⟨aluEncoded .sub, fun src s => ⟨_, exec_mkAlu_eq_afterAlu .sub src s, ?_, rfl, s.afterAlu_unchangedExcept _ _⟩⟩
  exact toNat_sub8 _ _

/-- Settles O21: the carry-in is the number that the flag is, in the difference and in both borrows. -/
theorem sbcSetsResultAndFlags : Obligations.SbcSetsResultAndFlags := by
  refine ⟨aluEncoded .sbc, fun src s => ⟨_, exec_mkAlu_eq_afterAlu .sbc src s, ?_, ?_, s.afterAlu_unchangedExcept _ _⟩⟩
  · exact toNat_sbc8 _ _ _
  · rw [← carryIn_eq_toNat]
    rfl

/-- Settles O22: the three functions are the bitwise operations by definition (R115, R116, R117). -/
theorem logicSetsResultAndFlags : Obligations.LogicSetsResultAndFlags := by
  refine ⟨aluEncoded .and, aluEncoded .xor, aluEncoded .or, fun src s => ⟨?_, ?_, ?_⟩⟩
  · exact ⟨_, exec_mkAlu_eq_afterAlu .and src s, rfl, rfl, s.afterAlu_unchangedExcept _ _⟩
  · exact ⟨_, exec_mkAlu_eq_afterAlu .xor src s, rfl, rfl, s.afterAlu_unchangedExcept _ _⟩
  · exact ⟨_, exec_mkAlu_eq_afterAlu .or src s, rfl, rfl, s.afterAlu_unchangedExcept _ _⟩

/-- Settles O23: Z says whether the difference is 0, that is whether the operands are equal. -/
theorem compareSetsFlagsOnly : Obligations.CompareSetsFlagsOnly := by
  refine ⟨aluEncoded .cp, fun src s => ⟨_, exec_mkAlu_eq_afterAlu .cp src s, ?_, s.afterAlu_cp_unchangedExcept src⟩⟩
  rw [decide_eq_decide.mpr (sub8_fst_eq_zero_iff s.a (s.src src)).symm]
  rfl

end Sys2Proof.Machine
end

section
/-! SUPPORT. The operations on one `r8` operand: INC and DEC (O24), BIT (O37), RES and SET (O38). -/

namespace Sys2Proof.Machine

open Sys2Proof

/-! ## Operands -/

@[simp] theorem State.charge_opnd (s : State) (n : Nat) (o : Opnd8) : (s.charge n).opnd o = s.opnd o := by
  cases o with
  | reg r => exact s.charge_reg n r
  | atHL => rfl

theorem opndStepCycles_eq (o : Opnd8) : opndStepCycles o = if o = .atHL then 3 else 1 := by cases o <;> rfl

theorem opndTestCycles_eq (o : Opnd8) : opndTestCycles o = if o = .atHL then 3 else 2 := by cases o <;> rfl

theorem opndWriteCycles_eq (o : Opnd8) : opndWriteCycles o = if o = .atHL then 4 else 2 := by cases o <;> rfl

/-- An instruction that updates an operand and the flags: what it leaves in them, and its frame. -/
theorem completes_applyToOpnd {i : Instr} {o : Opnd8} {out : Byte × FlagWrite} {n : Nat} {s : State}
    (hexec : exec i s = .next ((s.applyToOpnd o out).charge n)) :
    Completes i s (fun t => t.opnd o = out.1 ∧ t.flags = s.flags.write out.2 ∧
      UnchangedExcept { regs := opndRegs o, flags := true, bytes := opndBytes o s } n s t) :=
  ⟨_, hexec, by simp, by simp, (s.applyToOpnd_unchangedExcept o out).charge n⟩

/-! ## Encodings -/

theorem encode_mkInc8 (o : Opnd8) : encode (.mkInc8 o) = [0x04 + 8 * opndIndex o] := by
  rcases o with (_ | _ | _ | _ | _ | _ | _) | _ <;> rfl

theorem encode_mkDec8 (o : Opnd8) : encode (.mkDec8 o) = [0x05 + 8 * opndIndex o] := by
  rcases o with (_ | _ | _ | _ | _ | _ | _) | _ <;> rfl

theorem encode_mkBit (y : Fin 8) (o : Opnd8) :
    encode (.mkBit y o) = [0xCB, 0x40 + 8 * BitVec.ofNat 8 y.val + opndIndex o] := by
  fin_cases y <;> rcases o with (_ | _ | _ | _ | _ | _ | _) | _ <;> rfl

theorem encode_mkRes (y : Fin 8) (o : Opnd8) :
    encode (.mkRes y o) = [0xCB, 0x80 + 8 * BitVec.ofNat 8 y.val + opndIndex o] := by
  fin_cases y <;> rcases o with (_ | _ | _ | _ | _ | _ | _) | _ <;> rfl

theorem encode_mkSet (y : Fin 8) (o : Opnd8) :
    encode (.mkSet y o) = [0xCB, 0xC0 + 8 * BitVec.ofNat 8 y.val + opndIndex o] := by
  fin_cases y <;> rcases o with (_ | _ | _ | _ | _ | _ | _) | _ <;> rfl

/-! ## The functions of 41_alu.md bit by bit -/

/-- The low nibble as a masked byte and as a remainder. -/
theorem and_low_eq_iff (v k : Byte) : v &&& 0x0F = k ↔ v.toNat % 16 = k.toNat := by
  rw [← BitVec.toNat_inj, BitVec.toNat_and]
  exact iff_of_eq (congrArg (· = k.toNat) (Nat.and_two_pow_sub_one_eq_mod v.toNat 4))

/-- The flags INC writes: H when the low nibble was 0xF (R119). -/
theorem write_inc8 (f : Flags) (v : Byte) :
    f.write (inc8 v).2 = ⟨decide (v + 1 = 0), false, decide (v &&& 0x0F = 0x0F), f.c⟩ := by
  rw [decide_eq_decide.mpr (and_low_eq_iff v 0x0F)]
  rfl

/-- The flags DEC writes: H when the low nibble was 0 (R120). -/
theorem write_dec8 (f : Flags) (v : Byte) :
    f.write (dec8 v).2 = ⟨decide (v - 1 = 0), true, decide (v &&& 0x0F = 0x00), f.c⟩ := by
  rw [decide_eq_decide.mpr (and_low_eq_iff v 0x00)]
  rfl

/-- The mask of R135 and R136 has bit `y` alone set. -/
theorem getLsbD_one_shiftLeft (y k : Fin 8) : ((1 : Byte) <<< y.val).getLsbD k.val = decide (k = y) := by
  revert y k
  decide

/-- RES clears bit `y` and keeps the others (R136). -/
theorem getLsbD_res8 (v : Byte) (y k : Fin 8) :
    (res8 v y).getLsbD k.val = if k = y then false else v.getLsbD k.val := by
  rw [res8, BitVec.getLsbD_and, BitVec.getLsbD_not, getLsbD_one_shiftLeft]
  by_cases hk : k = y <;> simp [hk]

/-- SET sets bit `y` and keeps the others (R135). -/
theorem getLsbD_set8 (v : Byte) (y k : Fin 8) :
    (set8 v y).getLsbD k.val = if k = y then true else v.getLsbD k.val := by
  rw [set8, BitVec.getLsbD_or, getLsbD_one_shiftLeft]
  by_cases hk : k = y <;> simp [hk]

/-! ## The statements -/

/-- Settles O24: both are an update of the operand and the flags, with R119 or R120 as its function. -/
theorem incAndDecKeepCarry : Obligations.IncAndDecKeepCarry := by
  intro o s
  rw [← opndStepCycles_eq]
  obtain ⟨t, ht, htopnd, htflags, htframe⟩ := completes_applyToOpnd (exec_mkInc8 o s)
  obtain ⟨u, hu, huopnd, huflags, huframe⟩ := completes_applyToOpnd (exec_mkDec8 o s)
  refine ⟨encode_mkInc8 o, encode_mkDec8 o, ⟨t, ht, htopnd, ?_, htframe⟩, ⟨u, hu, huopnd, ?_, huframe⟩⟩
  · rw [htflags, htopnd, write_inc8, inc8]
  · rw [huflags, huopnd, write_dec8, dec8]

/-- Settles O37: BIT writes the flags and reads its operand. -/
theorem bitTestsWriteOnlyFlags : Obligations.BitTestsWriteOnlyFlags := by
  intro y o s
  rw [← opndTestCycles_eq]
  exact ⟨encode_mkBit y o, _, exec_mkBit y o s, rfl, ((UnchangedExcept.refl s).writeFlags _).charge _⟩

/-- Settles O38: RES and SET write their operand back, with the bits that `getLsbD_res8` and `getLsbD_set8` give. -/
theorem resAndSetChangeOneBit : Obligations.ResAndSetChangeOneBit := by
  intro y o s
  rw [← opndWriteCycles_eq]
  refine ⟨encode_mkRes y o, encode_mkSet y o, ⟨_, exec_mkRes y o s, fun k => ?_, ?_⟩,
    ⟨_, exec_mkSet y o s, fun k => ?_, ?_⟩⟩
  · rw [State.charge_opnd, State.setOpnd_opnd, getLsbD_res8]
  · exact (s.setOpnd_unchangedExcept o _).charge _
  · rw [State.charge_opnd, State.setOpnd_opnd, getLsbD_set8]
  · exact (s.setOpnd_unchangedExcept o _).charge _

end Sys2Proof.Machine
end

section
/-! SUPPORT. The accumulator and carry operations: DAA (O25), CPL, SCF and CCF (O26), and the rotates of A (O27). -/

namespace Sys2Proof.Machine

open Sys2Proof

/-! ## DAA as arithmetic of numbers -/

/-- After an addition: 0x60 for a carry or a value above 0x99, 0x06 for a half-carry or a low nibble above 9 (R137). -/
theorem daa8_add_fst (a : Byte) (hin cin : Bool) :
    (daa8 a false hin cin).1 = BitVec.ofNat 8 (a.toNat + (if cin = true ∨ a.toNat > 0x99 then 0x60 else 0) +
      (if hin = true ∨ a.toNat % 16 > 0x09 then 0x06 else 0)) := by
  simp only [daa8, Bool.false_eq_true, if_false, Bool.or_eq_true, decide_eq_true_eq, BitVec.ofNat_add,
    BitVec.ofNat_toNat, BitVec.setWidth_eq]
  split_ifs <;> rfl

/-- After a subtraction: 0x60 for a carry and 0x06 for a half-carry (R137). -/
theorem daa8_sub_fst (a : Byte) (hin cin : Bool) :
    (daa8 a true hin cin).1 = BitVec.ofInt 8 ((a.toNat : Int) - (if cin = true then 0x60 else 0) -
      (if hin = true then 0x06 else 0)) := by
  revert a hin cin
  decide

/-- The state after DAA. -/
def State.afterDaa (s : State) : State := (s.applyToA (daa8 s.a s.flags.n s.flags.h s.flags.c)).charge 1

theorem exec_daa (s : State) : exec .daa s = .next s.afterDaa := rfl

theorem State.afterDaa_of_add {s : State} (hn : s.flags.n = false) :
    s.afterDaa.a = BitVec.ofNat 8 (s.a.toNat + (if s.flags.c = true ∨ s.a.toNat > 0x99 then 0x60 else 0) +
      (if s.flags.h = true ∨ s.a.toNat % 16 > 0x09 then 0x06 else 0)) ∧
    s.afterDaa.flags.c = decide (s.flags.c = true ∨ s.a.toNat > 0x99) := by
  refine ⟨?_, ?_⟩
  · rw [← daa8_add_fst, ← hn]
    rfl
  · rw [Bool.decide_or, Bool.decide_eq_true, State.afterDaa, hn]
    rfl

theorem State.afterDaa_of_sub {s : State} (hn : s.flags.n = true) :
    s.afterDaa.a = BitVec.ofInt 8 ((s.a.toNat : Int) - (if s.flags.c = true then 0x60 else 0) -
      (if s.flags.h = true then 0x06 else 0)) ∧ s.afterDaa.flags.c = s.flags.c := by
  refine ⟨?_, ?_⟩
  · rw [← daa8_sub_fst, ← hn]
    rfl
  · rw [State.afterDaa, hn]
    rfl

/-- Settles O25: one case for each value of N; the other flags do not depend on it. -/
theorem daaAdjustsTheAccumulator : Obligations.DaaAdjustsTheAccumulator :=
  ⟨rfl, fun s => ⟨_, exec_daa s, State.afterDaa_of_add, State.afterDaa_of_sub, rfl, rfl, rfl,
    (s.applyToA_unchangedExcept _).charge 1⟩⟩

/-- Settles O26: the three write what R138, R139 and R140 say, by definition. -/
theorem cplScfCcf : Obligations.CplScfCcf := by
  refine ⟨rfl, rfl, rfl, fun s => ⟨?_, ?_, ?_⟩⟩
  · exact ⟨_, rfl, rfl, rfl, (s.applyToA_unchangedExcept (cpl8 s.a)).charge 1⟩
  · exact ⟨_, rfl, rfl, ((UnchangedExcept.refl s).writeFlags scfFlags).charge 1⟩
  · exact ⟨_, rfl, rfl, ((UnchangedExcept.refl s).writeFlags (ccfFlags s.flags.c)).charge 1⟩

/-! ## The rotates -/

/-- The results of the eight rotates and shifts agree with the account in library rotates and numbers, for every byte and
carry (R125 to R133). -/
theorem rotFunction_fst (op : RotOp) (v : Byte) (cin : Bool) : (rotFunction op v cin).1 = (rotAccount op v cin).1 := by
  cases op <;> revert v cin <;> decide

/-- Their flags: Z from the result, N and H zero, and the account's carry. -/
theorem rotFunction_snd (op : RotOp) (v : Byte) (cin : Bool) :
    (rotFunction op v cin).2 = shiftFlags (rotFunction op v cin).1 (rotAccount op v cin).2 := by
  cases op <;> rfl

/-- An instruction that rotates A and forces Z to 0, for any of the eight functions (R130). -/
theorem completes_rotateA {i : Instr} (op : RotOp)
    (hexec : ∀ s, exec i s = accOp (clearZ (rotFunction op s.a s.flags.c)) s) (s : State) :
    Completes i s (fun t => t.a = (rotAccount op s.a s.flags.c).1 ∧
      t.flags = ⟨false, false, false, (rotAccount op s.a s.flags.c).2⟩ ∧
      UnchangedExcept { regs := [.a], flags := true } 1 s t) := by
  refine ⟨_, hexec s, rotFunction_fst op _ _, ?_, (s.applyToA_unchangedExcept _).charge 1⟩
  rw [State.charge_flags, State.applyToA_flags, clearZ, rotFunction_snd]
  rfl

/-- Settles O27: the four are `completes_rotateA` for RLC, RRC, RL and RR. -/
theorem accumulatorRotatesForceZToZero : Obligations.AccumulatorRotatesForceZToZero :=
  ⟨rfl, rfl, rfl, rfl, fun s => ⟨completes_rotateA .rlc (fun _ => rfl) s, completes_rotateA .rrc (fun _ => rfl) s,
    completes_rotateA .rl (fun _ => rfl) s, completes_rotateA .rr (fun _ => rfl) s⟩⟩

end Sys2Proof.Machine
end

section
/-! SUPPORT. 16-bit arithmetic: SP with a signed displacement (O15), ADD HL,rr (O28), INC rr and DEC rr (O29). -/

namespace Sys2Proof.Machine

open Sys2Proof

/-- Adding a sign-extended byte is adding its signed value modulo 2^16 (R96, R124). -/
theorem add_sext8 (a : Word) (e : Byte) : a + sext8 e = BitVec.ofInt 16 ((a.toNat : Int) + e.toInt) := by
  rw [BitVec.ofInt_add, BitVec.ofInt_natCast, BitVec.ofNat_toNat, BitVec.setWidth_eq]
  rfl

@[simp] theorem State.charge_pair (s : State) (n : Nat) (p : Pair) : (s.charge n).pair p = s.pair p := by
  cases p <;> rfl

theorem encode_mkAddHL (p : Pair) : encode (.mkAddHL p) = [0x09 + 16 * pairIndex p] := by cases p <;> rfl

theorem encode_mkIncPair (p : Pair) : encode (.mkIncPair p) = [0x03 + 16 * pairIndex p] := by cases p <;> rfl

theorem encode_mkDecPair (p : Pair) : encode (.mkDecPair p) = [0x0B + 16 * pairIndex p] := by cases p <;> rfl

/-! ## The statements -/

/-- Settles O15: one function for both (R124), whose result goes to HL or to SP. -/
theorem spPlusSignedDisplacement : Obligations.SPPlusSignedDisplacement := by
  refine fun e s => ⟨rfl, rfl, ⟨_, rfl, ?_, rfl, ?_⟩, ⟨_, rfl, add_sext8 s.sp e, rfl, ?_⟩⟩
  · exact (s.setHL_hl (s.sp + sext8 e)).trans (add_sext8 s.sp e)
  · exact ((s.setPair_unchangedExcept .hl _).writeFlags _).charge 3
  · exact (((UnchangedExcept.refl s).setSP _).writeFlags _).charge 4

/-- Settles O28: the sum goes to HL and the flags are those of R123 as it writes them. -/
theorem addToHLKeepsZ : Obligations.AddToHLKeepsZ := by
  refine fun p s => ⟨encode_mkAddHL p, _, exec_mkAddHL p s, ?_, rfl, ?_⟩
  · rw [State.charge_hl, State.writeFlags_hl, State.setHL_hl]
    exact BitVec.toNat_ofNat _ 16
  · exact ((s.setPair_unchangedExcept .hl _).writeFlags _).charge 2

/-- Settles O29: both write the pair alone. -/
theorem incAndDecOfAPair : Obligations.IncAndDecOfAPair := by
  refine fun p s => ⟨encode_mkIncPair p, encode_mkDecPair p, ⟨_, exec_mkIncPair p s, ?_, ?_⟩,
    ⟨_, exec_mkDecPair p s, ?_, ?_⟩⟩
  · rw [State.charge_pair, State.setPair_pair, inc16, BitVec.toNat_add]
    rfl
  · exact (s.setPair_unchangedExcept p _).charge 2
  · rw [State.charge_pair, State.setPair_pair, dec16, BitVec.toNat_sub]
    exact congrArg (· % 65536) (Nat.add_comm _ _)
  · exact (s.setPair_unchangedExcept p _).charge 2

end Sys2Proof.Machine
end

section
/-! SUPPORT. What two ALU instructions in a row do: the round trips of addition and of the rotates (O57), and DAA after an
addition or a subtraction of packed BCD bytes (O58). -/

namespace Sys2Proof.Machine

open Sys2Proof

/-! ## Round trips -/

/-- SUB then ADD of the same byte, whatever the flags (R111, R113). -/
theorem add_after_sub {n : Byte} {s t u : State} (ht : exec (.sub_n n) s = .next t)
    (hu : exec (.addA_n n) t = .next u) : u.a = s.a := by
  cases ht
  cases hu
  calc (add8 (sub8 s.a n).1 n).1
    _ = s.a - n + n := by rw [add8_fst, sub8_fst]
    _ = s.a := BitVec.sub_add_cancel s.a n

/-- Everything a rotate or shift of a register leaves in that register and in the flags. -/
theorem rot_reg_next {op : RotOp} {r : Reg8} {s t : State} (h : exec (.mkRot op (.reg r)) s = .next t) :
    t.reg r = (rotFunction op (s.reg r) s.flags.c).1 ∧
      t.flags = s.flags.write (rotFunction op (s.reg r) s.flags.c).2 := by
  obtain ⟨_, ht, hopnd, hflags, -⟩ := completes_applyToOpnd (exec_mkRot op (.reg r) s)
  cases h.symm.trans ht
  exact ⟨hopnd, hflags⟩

/-- RRC moves back the bit that RLC has moved out of bit 7 (R126, R127). -/
theorem rrc8_rlc8 (v : Byte) : (rrc8 (rlc8 v).1).1 = v := by
  revert v
  decide

/-- RR with RL's carry moves the bits back, and the first carry out again (R128, R129). -/
theorem rr8_rl8 (v : Byte) (c : Bool) :
    (rr8 (rl8 v c).1 (v.getLsbD 7)).1 = v ∧ (rl8 v c).1.getLsbD 0 = c := by
  revert v c
  decide

theorem rrc_after_rlc {r : Reg8} {s t u : State} (ht : exec (.mkRot .rlc (.reg r)) s = .next t)
    (hu : exec (.mkRot .rrc (.reg r)) t = .next u) : u.reg r = s.reg r := by
  obtain ⟨htreg, -⟩ := rot_reg_next ht
  obtain ⟨hureg, -⟩ := rot_reg_next hu
  rw [hureg, htreg]
  exact rrc8_rlc8 (s.reg r)

theorem rr_after_rl {r : Reg8} {s t u : State} (ht : exec (.mkRot .rl (.reg r)) s = .next t)
    (hu : exec (.mkRot .rr (.reg r)) t = .next u) : u.reg r = s.reg r ∧ u.flags.c = s.flags.c := by
  obtain ⟨htreg, htflags⟩ := rot_reg_next ht
  obtain ⟨hureg, huflags⟩ := rot_reg_next hu
  rw [hureg, huflags, htreg, htflags]
  exact rr8_rl8 (s.reg r) s.flags.c

/-- Settles O57, one law for each of the four clauses; ADC with C = 0 is ADD since their functions agree (R112). -/
theorem arithmeticAndRotateRoundTrips : Obligations.ArithmeticAndRotateRoundTrips := by
  refine ⟨fun _ _ _ _ => add_after_sub, fun src s hc => ?_, fun _ _ _ _ => rrc_after_rlc, fun _ _ _ _ => rr_after_rl⟩
  rw [exec_mkAlu_eq_afterAlu, exec_mkAlu_eq_afterAlu, State.afterAlu, State.afterAlu, hc, aluFunction_adc_false]

/-! ## Decimal arithmetic -/

theorem toNat_bcd {n : Nat} (hn : n < 100) : (bcd n).toNat = n / 10 * 16 + n % 10 := by
  rw [bcd, BitVec.toNat_ofNat]
  omega

section
variable {x y c : Nat} (hx : x < 100) (hy : y < 100) (hc : c ≤ 1)
include hx hy hc

/-- The bytes' sum carries, or passes 0x99, exactly when the decimal sum carries (R137's test for 0x60). -/
theorem bcd_add_high_iff :
    ((bcd x).toNat + (bcd y).toNat + c > 0xFF ∨ ((bcd x).toNat + (bcd y).toNat + c) % 256 > 0x99) ↔
      100 ≤ x + y + c := by
  have hsum (n : Nat) : (n > 0xFF ∨ n % 256 > 0x99) ↔ n > 0x99 := by omega
  rw [hsum, toNat_bcd hx, toNat_bcd hy]
  omega

/-- The low digits' sum half-carries, or passes 9, exactly when it carries as a decimal digit (R137's test for 0x06). -/
theorem bcd_add_low_iff :
    ((bcd x).toNat % 16 + (bcd y).toNat % 16 + c > 0xF ∨ ((bcd x).toNat + (bcd y).toNat + c) % 256 % 16 > 9) ↔
      10 ≤ x % 10 + y % 10 + c := by
  rw [toNat_bcd hx, toNat_bcd hy]
  omega

/-- With the two corrections the bytes' sum is the packed decimal sum. -/
theorem bcd_add_corrected :
    (((bcd x).toNat + (bcd y).toNat + c) % 256 + (if 100 ≤ x + y + c then 0x60 else 0) +
      (if 10 ≤ x % 10 + y % 10 + c then 0x06 else 0)) % 256 = (bcd ((x + y + c) % 100)).toNat := by
  rw [toNat_bcd hx, toNat_bcd hy, toNat_bcd (Nat.mod_lt _ (by decide))]
  split_ifs <;> omega

/-- The bytes' difference borrows exactly when the decimal difference does. -/
theorem bcd_sub_borrow_iff : (bcd x).toNat < (bcd y).toNat + c ↔ x < y + c := by
  rw [toNat_bcd hx, toNat_bcd hy]
  omega

/-- The low digits' difference half-borrows exactly when it borrows as a decimal digit. -/
theorem bcd_sub_half_iff : (bcd x).toNat % 16 < (bcd y).toNat % 16 + c ↔ x % 10 < y % 10 + c := by
  rw [toNat_bcd hx, toNat_bcd hy]
  omega

/-- With the two corrections the bytes' difference is the packed decimal difference. -/
theorem bcd_sub_corrected :
    (((((bcd x).toNat + 512 - (bcd y).toNat - c) % 256 : Nat) : Int) - (if x < y + c then 0x60 else 0) -
      (if x % 10 < y % 10 + c then 0x06 else 0)) % 256 = (bcd ((x + 100 - y + 100 - c) % 100)).toNat := by
  rw [toNat_bcd hx, toNat_bcd hy, toNat_bcd (Nat.mod_lt _ (by decide))]
  split_ifs <;> omega

end

/-- ADC then DAA is decimal addition (R112, R137). -/
theorem daa_after_adc {x y : Nat} {s t u : State} (hx : x < 100) (hy : y < 100) (ha : s.a = bcd x)
    (ht : exec (.adcA_n (bcd y)) s = .next t) (hu : exec .daa t = .next u) :
    u.a = bcd ((x + y + s.flags.c.toNat) % 100) ∧ u.flags.c = decide (100 ≤ x + y + s.flags.c.toNat) := by
  have hc := s.flags.c.toNat_le
  obtain ⟨-, hadc⟩ := adcSetsResultAndFlags
  obtain ⟨_, ht', hta, htf, -⟩ := hadc (.imm (bcd y)) s
  cases ht.symm.trans ht'
  rw [exec_daa] at hu
  cases hu
  obtain ⟨hua, huc⟩ := State.afterDaa_of_add (s := t) (by rw [htf])
  have hsrc : s.src (.imm (bcd y)) = bcd y := rfl
  rw [hua, huc, htf, hta, ha, hsrc]
  simp only [decide_eq_true_eq, bcd_add_high_iff hx hy hc, bcd_add_low_iff hx hy hc, and_true]
  apply BitVec.eq_of_toNat_eq
  rw [BitVec.toNat_ofNat]
  exact bcd_add_corrected hx hy hc

/-- SBC then DAA is decimal subtraction (R114, R137). -/
theorem daa_after_sbc {x y : Nat} {s t u : State} (hx : x < 100) (hy : y < 100) (ha : s.a = bcd x)
    (ht : exec (.sbcA_n (bcd y)) s = .next t) (hu : exec .daa t = .next u) :
    u.a = bcd ((x + 100 - y + 100 - s.flags.c.toNat) % 100) ∧ u.flags.c = decide (x < y + s.flags.c.toNat) := by
  have hc := s.flags.c.toNat_le
  obtain ⟨-, hsbc⟩ := sbcSetsResultAndFlags
  obtain ⟨_, ht', hta, htf, -⟩ := hsbc (.imm (bcd y)) s
  cases ht.symm.trans ht'
  rw [exec_daa] at hu
  cases hu
  obtain ⟨hua, huc⟩ := State.afterDaa_of_sub (s := t) (by rw [htf])
  have hsrc : s.src (.imm (bcd y)) = bcd y := rfl
  rw [hua, huc, htf, hta, ha, hsrc]
  simp only [decide_eq_true_eq, bcd_sub_borrow_iff hx hy hc, bcd_sub_half_iff hx hy hc, and_true]
  apply BitVec.eq_of_toNat_eq
  rw [BitVec.toNat_ofInt]
  exact congrArg Int.toNat (bcd_sub_corrected hx hy hc)

/-- Settles O58, one law for ADC and one for SBC. -/
theorem daaMakesDecimalArithmetic : Obligations.DaaMakesDecimalArithmetic := fun _ _ _ _ _ hx hy ha =>
  ⟨daa_after_adc hx hy ha, daa_after_sbc hx hy ha⟩

end Sys2Proof.Machine
end

section
/-! SUPPORT. Loads and stores (O8 to O14): every 8-bit load is the write of one register and every 8-bit store the write of
one byte, each with its frame; the forms that step HL, and the 16-bit forms, add to these what else they write. -/

namespace Sys2Proof.Machine

open Sys2Proof

/-! ## Two more frame rules -/

/-- Writing HL writes its two halves (R22). -/
theorem UnchangedExcept.setHL {w : MayWrite} {k : Nat} {s t : State} (h : UnchangedExcept w k s t) (v : Word) :
    UnchangedExcept { w with regs := .h :: .l :: w.regs } k s (t.setHL v) :=
  (h.setReg .l (loByte v)).setReg .h (hiByte v)

/-- A word write changes the byte at its address and the one above it (R65, R66). -/
theorem State.write16_unchangedExcept (s : State) (x v : Word) :
    UnchangedExcept { bytes := [x, x + 1] } 0 s (s.write16 x v) :=
  { ((UnchangedExcept.refl s).write8 x (loByte v)).write8 (x + 1) (hiByte v) with
    bytes := fun y hy => by
      obtain ⟨hlow, hhigh⟩ : y ≠ x ∧ y ≠ x + 1 := by simpa using hy
      rw [State.read8_write16, if_neg hhigh, if_neg hlow] }

/-! ## The shared operations -/

/-- An instruction that loads one register: what it leaves there, and its frame (R150, R151, R153, R155 to R163). -/
theorem completes_setReg {i : Instr} {dst : Reg8} {v : Byte} {n : Nat} {s : State}
    (hexec : exec i s = .next ((s.setReg dst v).charge n)) :
    Completes i s (fun t => t.reg dst = v ∧ UnchangedExcept { regs := [dst] } n s t) :=
  ⟨_, hexec, by simp, ((UnchangedExcept.refl s).setReg dst v).charge n⟩

/-- An instruction that stores one byte: what it leaves there, and its frame (R152, R154, R157 to R164). -/
theorem completes_write8 {i : Instr} {x : Word} {v : Byte} {n : Nat} {s : State}
    (hexec : exec i s = .next ((s.write8 x v).charge n)) :
    Completes i s (fun t => t.read8 x = v ∧ UnchangedExcept { bytes := [x] } n s t) :=
  ⟨_, hexec, by simp, ((UnchangedExcept.refl s).write8 x v).charge n⟩

/-- Storing A at HL and moving HL: the byte is at the HL of before (R165, R166). -/
theorem completes_ldAtHLStep {i : Instr} {delta : Word} {s : State} (hexec : exec i s = ldAtHLStep delta s) :
    Completes i s (fun t => t.read8 s.hl = s.a ∧ t.hl = s.hl + delta ∧
      UnchangedExcept { regs := [.h, .l], bytes := [s.hl] } 2 s t) := by
  refine ⟨_, hexec, by simp, by simp, ?_⟩
  exact (((UnchangedExcept.refl s).write8 s.hl s.a).setHL (s.hl + delta)).charge 2

/-- Loading A from HL and moving HL: the byte is the one at the HL of before (R167, R168). -/
theorem completes_ldAAtHLStep {i : Instr} {delta : Word} {s : State} (hexec : exec i s = ldAAtHLStep delta s) :
    Completes i s (fun t => t.a = s.read8 s.hl ∧ t.hl = s.hl + delta ∧
      UnchangedExcept { regs := [.a, .h, .l] } 2 s t) := by
  refine ⟨_, hexec, rfl, by simp, ?_⟩
  exact (((UnchangedExcept.refl s).setHL (s.hl + delta)).setReg .a (s.read8 s.hl)).charge 2

/-- Loading A from an address (R155, R156, R159, R161, R163). -/
theorem completes_ldAAt {i : Instr} {addr : Word} {n : Nat} {s : State} (hexec : exec i s = ldAAt addr n s) :
    Completes i s (fun t => t.a = s.read8 addr ∧ UnchangedExcept { regs := [.a] } n s t) :=
  completes_setReg (dst := .a) hexec

/-- Storing A at an address (R157, R158, R160, R162, R164). -/
theorem completes_ldAtA {i : Instr} {addr : Word} {n : Nat} {s : State} (hexec : exec i s = ldAtA addr n s) :
    Completes i s (fun t => t.read8 addr = s.a ∧ UnchangedExcept { bytes := [addr] } n s t) :=
  completes_write8 hexec

/-- The address of the LDH and (C) forms as a sum of numbers (R96, D22). -/
theorem highPage_eq (n : Byte) : highPage n = BitVec.ofNat 16 (0xFF00 + n.toNat) := by
  rw [highPage, BitVec.ofNat_add, BitVec.ofNat_toNat]
  rfl

/-! ## Encodings -/

theorem encode_mkLdRegReg (dst r : Reg8) :
    encode (.mkLdRegReg dst r) = [0x40 + 8 * regIndex dst + regIndex r] := by
  cases dst <;> cases r <;> rfl

theorem encode_mkLdRegAtHL (dst : Reg8) : encode (.mkLdRegAtHL dst) = [0x46 + 8 * regIndex dst] := by
  cases dst <;> rfl

theorem encode_mkLdRegImm (dst : Reg8) (n : Byte) : encode (.mkLdRegImm dst n) = [0x06 + 8 * regIndex dst, n] := by
  cases dst <;> rfl

theorem encode_mkLdAtHLReg (r : Reg8) : encode (.mkLdAtHLReg r) = [0x70 + regIndex r] := by cases r <;> rfl

theorem encode_mkLdPairImm (p : Pair) (nn : Word) :
    encode (.mkLdPairImm p nn) = [0x01 + 16 * pairIndex p, loByte nn, hiByte nn] := by
  cases p <;> rfl

/-! ## The statements -/

/-- Settles O8: all three forms write one register, with the value read before the write. -/
theorem loadsIntoARegister : Obligations.LoadsIntoARegister := fun dst r n s =>
  ⟨encode_mkLdRegReg dst r, encode_mkLdRegAtHL dst, encode_mkLdRegImm dst n, completes_setReg (exec_mkLdRegReg dst r s),
    completes_setReg (exec_mkLdRegAtHL dst s), completes_setReg (exec_mkLdRegImm dst n s)⟩

/-- Settles O9: both forms write the byte at HL. -/
theorem storesAtHL : Obligations.StoresAtHL := fun r n s =>
  ⟨encode_mkLdAtHLReg r, rfl, completes_write8 (exec_mkLdAtHLReg r s), completes_write8 (x := s.hl) (v := n) rfl⟩

/-- Settles O10: every form writes A, with the byte at its own address. -/
theorem accumulatorLoads : Obligations.AccumulatorLoads := by
  intro nn n s
  rw [← highPage_eq n, ← highPage_eq s.c]
  exact ⟨rfl, rfl, rfl, rfl, rfl, completes_ldAAt rfl, completes_ldAAt rfl, completes_ldAAt rfl, completes_ldAAt rfl,
    completes_ldAAt rfl⟩

/-- Settles O11: every form writes the byte at its own address, with A. -/
theorem accumulatorStores : Obligations.AccumulatorStores := by
  intro nn n s
  rw [← highPage_eq n, ← highPage_eq s.c]
  exact ⟨rfl, rfl, rfl, rfl, rfl, completes_ldAtA rfl, completes_ldAtA rfl, completes_ldAtA rfl, completes_ldAtA rfl,
    completes_ldAtA rfl⟩

/-- Settles O12: a step down is a step by -1 modulo 2^16. -/
theorem postIncrementAndDecrementOfHL : Obligations.PostIncrementAndDecrementOfHL := by
  intro s
  rw [BitVec.sub_eq_add_neg]
  exact ⟨rfl, rfl, rfl, rfl, completes_ldAtHLStep rfl, completes_ldAtHLStep rfl, completes_ldAAtHLStep rfl,
    completes_ldAAtHLStep rfl⟩

/-- Settles O13: the pair, or SP, is all that is written. -/
theorem loadsA16BitImmediate : Obligations.LoadsA16BitImmediate := fun p nn s =>
  ⟨encode_mkLdPairImm p nn, _, exec_mkLdPairImm p nn s, by simp, (s.setPair_unchangedExcept p nn).charge 3⟩

/-- Settles O14: the store is a word write, whose two addresses differ; the load writes SP alone. -/
theorem storesAndLoadsOfSP : Obligations.StoresAndLoadsOfSP := fun nn s =>
  ⟨rfl, rfl,
    ⟨_, rfl, s.read8_write16_low nn s.sp, s.read8_write16_high nn s.sp, (s.write16_unchangedExcept nn s.sp).charge 5⟩,
    _, rfl, rfl, ((UnchangedExcept.refl s).setSP s.hl).charge 2⟩

end Sys2Proof.Machine
end

section
/-! SUPPORT. Jumps, calls and returns (O30 to O34): what `callTo` and `returnFrom` leave, each with its frame, and one rule
for the conditional forms, whose two outcomes are proved apart. -/

namespace Sys2Proof.Machine

open Sys2Proof

/-! ## Two more frame rules -/

section
variable {w : MayWrite} {k : Nat} {s t : State}

theorem UnchangedExcept.setPC (h : UnchangedExcept w k s t) (v : Word) :
    UnchangedExcept { w with pc := true } k s { t with pc := v } :=
  { h with pc := fun hpc => absurd hpc (by simp) }

theorem UnchangedExcept.setIME (h : UnchangedExcept w k s t) (b : Bool) :
    UnchangedExcept { w with ime := true } k s { t with ime := b } :=
  { h with ime := fun hime => absurd hime (by simp) }

end

/-! ## The shared operations -/

/-- A jump writes PC alone (R231 to R235). -/
theorem State.jump_unchangedExcept (s : State) (target : Word) (n : Nat) :
    UnchangedExcept { pc := true } n s ({ s with pc := target }.charge n) :=
  ((UnchangedExcept.refl s).setPC target).charge n

/-- A call pushes the address after the instruction, which is where PC stands when a meaning runs (R236, R237, R241). -/
theorem State.callsTo (s : State) (target : Word) (n : Nat) :
    CallsTo target n s ({ s.push16 s.pc with pc := target }.charge n) :=
  ⟨rfl, rfl, s.read8_push16_low s.pc, s.read8_push16_high s.pc, (s.push16_unchangedExcept s.pc n).setPC target⟩

/-- A return takes PC from the word at SP and raises SP past it (R238, R239). -/
theorem State.returns (s : State) (n : Nat) : Returns n s ({ s.pop16.2 with pc := s.pop16.1 }.charge n) :=
  ⟨rfl, rfl, (((UnchangedExcept.refl s).setSP (s.sp + 2)).setPC s.pop16.1).charge n⟩

/-- A conditional instruction completes as its taken form or as its other form (R230). -/
theorem completes_cond {i : Instr} {cond : Cond} {s u v : State} {P Q : State → Prop}
    (hexec : exec i s = if condHolds cond s.flags then .next u else .next v) (htaken : P u) (hnot : Q v) :
    Completes i s (fun t => if condHolds cond s.flags = true then P t else Q t) := by
  by_cases hc : condHolds cond s.flags = true
  · exact ⟨u, hexec.trans (if_pos hc), (if_pos hc).mpr htaken⟩
  · exact ⟨v, hexec.trans (if_neg hc), (if_neg hc).mpr hnot⟩

/-! ## Encodings -/

theorem encode_mkJpCond (cond : Cond) (nn : Word) :
    encode (.mkJpCond cond nn) = [0xC2 + 8 * condIndex cond, loByte nn, hiByte nn] := by
  cases cond <;> rfl

theorem encode_mkJrCond (cond : Cond) (e : Byte) : encode (.mkJrCond cond e) = [0x20 + 8 * condIndex cond, e] := by
  cases cond <;> rfl

theorem encode_mkCallCond (cond : Cond) (nn : Word) :
    encode (.mkCallCond cond nn) = [0xC4 + 8 * condIndex cond, loByte nn, hiByte nn] := by
  cases cond <;> rfl

theorem encode_mkRetCond (cond : Cond) : encode (.mkRetCond cond) = [0xC0 + 8 * condIndex cond] := by
  cases cond <;> rfl

theorem encode_mkRst (y : Fin 8) : encode (.mkRst y) = [BitVec.ofNat 8 (0xC7 + 8 * y.val)] := by
  fin_cases y <;> rfl

/-! ## The statements -/

/-- Settles O30: every form writes PC alone, and a jump not taken writes nothing. -/
theorem absoluteJumps : Obligations.AbsoluteJumps := by
  refine ⟨fun _ => ⟨rfl, rfl, rfl, rfl⟩, fun cond nn s => ⟨rfl, rfl, encode_mkJpCond cond nn, ?_, ?_, ?_⟩⟩
  · exact ⟨_, rfl, rfl, s.jump_unchangedExcept nn 4⟩
  · exact ⟨_, rfl, rfl, s.jump_unchangedExcept s.hl 1⟩
  · exact completes_cond (exec_mkJpCond cond nn s) ⟨rfl, s.jump_unchangedExcept nn 4⟩
      ⟨rfl, (UnchangedExcept.refl s).charge 3⟩

/-- Settles O31: the target is the sum of R96 in integers (`add_sext8`). -/
theorem relativeJumps : Obligations.RelativeJumps := by
  intro cond e s
  rw [← add_sext8 s.pc e]
  have hframe := s.jump_unchangedExcept (s.pc + sext8 e) 3
  exact ⟨rfl, encode_mkJrCond cond e, ⟨_, rfl, rfl, hframe⟩,
    completes_cond (exec_mkJrCond cond e s) ⟨rfl, hframe⟩ ⟨rfl, (UnchangedExcept.refl s).charge 2⟩⟩

/-- Settles O32: the taken forms are one call, and a call not taken only costs its cycles. -/
theorem callsPushTheReturnAddress : Obligations.CallsPushTheReturnAddress := fun cond nn s =>
  ⟨rfl, encode_mkCallCond cond nn, ⟨_, rfl, s.callsTo nn 6⟩,
    completes_cond (exec_mkCallCond cond nn s) (s.callsTo nn 6) ((UnchangedExcept.refl s).charge 3)⟩

/-- Settles O33: RETI sets IME and then pops as RET does. -/
theorem returnsPopPC : Obligations.ReturnsPopPC := by
  refine fun cond s => ⟨rfl, encode_mkRetCond cond, rfl, ⟨_, rfl, s.returns 4⟩, ?_, ⟨_, rfl, rfl, rfl, rfl, ?_⟩⟩
  · exact completes_cond (exec_mkRetCond cond s) (s.returns 5) ((UnchangedExcept.refl s).charge 2)
  · exact ((((UnchangedExcept.refl s).setIME true).setSP (s.sp + 2)).setPC s.pop16.1).charge 4

/-- Settles O34: a restart is a call of the vector 8 * y. -/
theorem restartCallsItsVector : Obligations.RestartCallsItsVector := fun y s =>
  ⟨encode_mkRst y, _, exec_mkRst y s, s.callsTo (rstVector y) 4⟩

end Sys2Proof.Machine
end

section
/-! SUPPORT. Rotates, shifts and SWAP of an operand (O35, O36): one rule for every operation and both operand forms. -/

namespace Sys2Proof.Machine

open Sys2Proof

/-- The encoding `0xCB 00ooozzz` (46_cb.md), for both operand forms. -/
theorem encode_mkRot (op : RotOp) (o : Opnd8) :
    encode (.mkRot op o) = [0xCB, 8 * rotIndex op + opndIndex o] := by
  cases op <;> rcases o with (_ | _ | _ | _ | _ | _ | _) | _ <;> rfl

/-- A rotate, shift or SWAP replaces its operand by the account's result, and all four flags (R251 to R266). -/
theorem completes_mkRot (op : RotOp) (o : Opnd8) (s : State) :
    Completes (.mkRot op o) s (fun t =>
      t.opnd o = (rotAccount op (s.opnd o) s.flags.c).1 ∧
      t.flags = ⟨decide (t.opnd o = 0), false, false, (rotAccount op (s.opnd o) s.flags.c).2⟩ ∧
      UnchangedExcept { regs := opndRegs o, flags := true, bytes := opndBytes o s } (opndWriteCycles o) s t) := by
  obtain ⟨t, hexec, hopnd, hflags, hframe⟩ := completes_applyToOpnd (exec_mkRot op o s)
  refine ⟨t, hexec, hopnd.trans (rotFunction_fst op _ _), ?_, hframe⟩
  rw [hflags, hopnd, rotFunction_snd]
  rfl

/-- HL is as before where neither H nor L may change (R21). -/
theorem UnchangedExcept.hl {w : MayWrite} {k : Nat} {s t : State} (h : UnchangedExcept w k s t)
    (hh : .h ∉ w.regs) (hl : .l ∉ w.regs) : t.hl = s.hl :=
  congrArg₂ joinBytes (h.regs .h hh) (h.regs .l hl)

/-- Settles O35: `completes_mkRot` for a register. -/
theorem rotatesAndShiftsOfARegister : Obligations.RotatesAndShiftsOfARegister := fun op r s =>
  ⟨encode_mkRot op (.reg r), completes_mkRot op (.reg r) s⟩

/-- Settles O36: `completes_mkRot` for (HL), whose address is the old HL since no register changes. -/
theorem rotatesAndShiftsAtHL : Obligations.RotatesAndShiftsAtHL := by
  refine fun op s => ⟨encode_mkRot op .atHL, ?_, fun r => completes_mkRot op (.reg r) s⟩
  obtain ⟨t, hexec, hopnd, hflags, hframe⟩ := completes_mkRot op .atHL s
  have hread : t.opnd .atHL = t.read8 s.hl := congrArg t.read8 (hframe.hl List.not_mem_nil List.not_mem_nil)
  rw [hread] at hopnd hflags
  exact ⟨t, hexec, hopnd, hflags, hframe⟩

end Sys2Proof.Machine
end

section
/-! SUPPORT. The system instructions (O39 to O41): a state with a run state set stays idle, the instructions that set one
change nothing else, and the row PREFIX CB is the extended row of the byte at PC, at that row's cost in T1. -/

namespace Sys2Proof.Machine

open Sys2Proof

/-! ## Staying idle -/

/-- Where a run state is set a step only moves the system clock (R303). -/
theorem step_of_idle {s : State} (hidle : s.idle = true) : step s = .next s.idleStep := by
  rw [step_eq, if_pos hidle]

/-- An idle step leaves the run states, so the next step is idle too: by induction on the steps. -/
theorem staysIdle_of_idle {s : State} (hidle : s.idle = true) : StaysIdle s := by
  intro k
  induction k generalizing s with
  | zero => rfl
  | succ k ih =>
    have hrest := ih (s := s.idleStep) hidle
    rw [core_run_succ (step_of_idle hidle), hrest, State.idleStep_sysM, Nat.add_assoc, Nat.add_comm 1 k]
    rfl

/-! ## The frame rules of the run states -/

section
variable {w : MayWrite} {k : Nat} {s t : State}

theorem UnchangedExcept.setHalted (h : UnchangedExcept w k s t) (b : Bool) :
    UnchangedExcept { w with halted := true } k s { t with halted := b } :=
  { h with halted := fun hw => absurd hw (by simp) }

theorem UnchangedExcept.setStopped (h : UnchangedExcept w k s t) (b : Bool) :
    UnchangedExcept { w with stopped := true } k s { t with stopped := b } :=
  { h with stopped := fun hw => absurd hw (by simp) }

theorem UnchangedExcept.lock (h : UnchangedExcept w k s t) : UnchangedExcept { w with locked := true } k s t.lock :=
  { h with locked := fun hw => absurd hw (by simp) }

end

/-! ## The extended rows -/

/-- The cycles of the extended rule that a byte selects: BIT tests its operand, the others write it back (R250). -/
def extendedCycles (b : Byte) : Nat :=
  match opX b with
  | 1 => opndTestCycles (r8 (opZ b))
  | _ => opndWriteCycles (r8 (opZ b))

/-- They are the table's (R307). -/
theorem extendedCycles_eq_timingT1 (b : Byte) : extendedCycles b = tableCell timingT1 b 0 := by
  revert b
  decide

/-- An extended rule completes at its row's cost and leaves PC (R250). -/
theorem execExtended_clocks_pc (b : Byte) (s : State) :
    ∃ t, execExtended b s = .next t ∧ t.insM = s.insM + extendedCycles b ∧ t.sysM = s.sysM + extendedCycles b ∧
      t.pc = s.pc := by
  unfold execExtended extendedCycles
  split <;> exact ⟨_, rfl, by simp [*]⟩

/-! ## The row PREFIX CB -/

/-- The row PREFIX CB is the extended instruction that the byte at PC decodes to, run past that byte (R285). -/
theorem exec_prefixCB_eq_exec_decodeExtended (s : State) :
    exec .prefixCB s = exec (decodeExtended (s.read8 s.pc))
      { s with pc := s.pc + 1, currentExtendedOpcode := s.read8 s.pc } := by
  rw [exec_prefixCB, execExtended_eq]

/-- Its cost is the T1 entry of that byte and nothing more (R302, R307). -/
theorem completes_prefixCB (s : State) :
    Completes .prefixCB s (fun t => t.insM = s.insM + tableCell timingT1 (s.read8 s.pc) 0 ∧
      t.sysM = s.sysM + tableCell timingT1 (s.read8 s.pc) 0 ∧ t.pc = s.pc + 1) := by
  rw [← extendedCycles_eq_timingT1]
  exact execExtended_clocks_pc (s.read8 s.pc) { s with pc := s.pc + 1, currentExtendedOpcode := s.read8 s.pc }

/-- At 0xCB a fetch takes the extended byte too: it is the fetch of the opcode byte alone, and then what PREFIX CB does
before it runs the extended row (R285, R42). -/
theorem State.afterFetch_of_prefix {s : State} (hop : s.fetchByte0 = prefixByte) :
    s.afterFetch =
      { s with pc := s.pc + 1 + 1, currentOpcode := 0xCB, currentExtendedOpcode := s.fetchByte1, insM := 0 } := by
  have hpc : s.pc + 1 + 1 = s.pc + BitVec.ofNat 16 (instrLength prefixByte) := BitVec.add_assoc s.pc 1 1
  rw [State.afterFetch, hop, if_pos rfl, hpc]
  rfl

/-- So a dispatched step at 0xCB is the run of the row PREFIX CB (R285). -/
theorem step_of_prefix {s : State} (hidle : s.idle = false) (hop : s.fetchByte0 = prefixByte) :
    step s = exec .prefixCB { s with pc := s.pc + 1, currentOpcode := 0xCB, insM := 0 } := by
  have hfetch : s.fetch = decodeExtended s.fetchByte1 := if_pos hop
  rw [step_eq, if_neg (by simp [hidle]), hfetch, s.afterFetch_of_prefix hop, exec_prefixCB_eq_exec_decodeExtended]
  rfl

/-! ## The statements -/

/-- Settles O39: the row PREFIX CB is an extended row by definition, its cost is T1's, and a step at 0xCB runs it. -/
theorem prefixRunsTheExtendedRow : Obligations.PrefixRunsTheExtendedRow :=
  ⟨rfl, fun s => ⟨exec_prefixCB_eq_exec_decodeExtended s, completes_prefixCB s⟩, fun _ => step_of_prefix⟩

/-- Settles O40: each instruction is one update of the run state, and HALT and STOP leave the CORE idle. -/
theorem controlInstructions : Obligations.ControlInstructions := by
  intro n s
  have hframe := UnchangedExcept.refl s
  refine ⟨rfl, rfl, rfl, rfl, rfl, ?nop, ?halt, ?stop, ?di, ?ei⟩
  case nop => exact ⟨_, rfl, hframe.charge 1⟩
  case halt => exact ⟨_, rfl, rfl, (hframe.setHalted true).charge 1, staysIdle_of_idle (by simp [State.idle])⟩
  case stop => exact ⟨_, rfl, rfl, (hframe.setStopped true).charge 1, staysIdle_of_idle (by simp [State.idle])⟩
  case di => exact ⟨_, rfl, rfl, (hframe.setIME false).charge 1⟩
  case ei => exact ⟨_, rfl, rfl, (hframe.setIME true).charge 1⟩

/-- Settles O41: an undefined opcode locks the CORE (`exec_undefined`), and a locked CORE stays idle. -/
theorem undefinedOpcodesLockTheCore : Obligations.UndefinedOpcodesLockTheCore :=
  ⟨rfl, fun _ hi s => ⟨_, exec_undefined hi s, rfl, (UnchangedExcept.refl s).lock.charge 1,
    staysIdle_of_idle (by simp [State.idle, State.lock])⟩⟩

end Sys2Proof.Machine
end

section
/-! SUPPORT. What a step costs (O7, O43). Run on any state, an instruction that 0xCB does not start charges its opcode's
entry in the primary table (`chargesOpcodeCost`), the taken one where its condition holds; the extended rows charge
theirs in T1 (`completes_prefixCB`). -/

namespace Sys2Proof.Machine

open Sys2Proof

/-! ## Idle steps -/

/-- Settles O7: an idle step is `idleStep`, which is the state with the system clock moved by one. -/
theorem idleStepOnlyAddsOneMachineCycle : Obligations.IdleStepOnlyAddsOneMachineCycle := by
  refine fun s hrun => ⟨step_of_idle ?_, Nat.add_sub_cancel_left _ _⟩
  simpa [State.idle, or_assoc] using hrun

/-! ## The cost of an opcode -/

/-- The cost of a primary opcode under given flags: its T0 entry, the taken one where it is conditional and its condition
holds (R302, R306). -/
def opcodeCost (b : Byte) (f : Flags) : Nat :=
  match conditionOf b with
  | some cond => if condHolds cond f then tableCell timingT0Taken b 0 else tableCell timingT0 b 0
  | none => tableCell timingT0 b 0

theorem State.tableCost_of_prefix {s : State} (hop : s.fetchByte0 = prefixByte) :
    s.tableCost = tableCell timingT1 s.fetchByte1 0 := if_pos hop

theorem State.tableCost_of_opcode {s : State} (hop : s.fetchByte0 ≠ prefixByte) :
    s.tableCost = opcodeCost s.fetchByte0 s.flags := if_neg hop

/-- Every entry of the three tables is between 1 and 6 (R306, R307). -/
theorem timing_bounds (b : Byte) :
    tableCell timingT0 b 0 ∈ Set.Icc 1 6 ∧ tableCell timingT0Taken b 0 ∈ Set.Icc 1 6 ∧
      tableCell timingT1 b 0 ∈ Set.Icc 1 6 := by
  revert b
  decide

/-- So is the cost of any instruction at PC. -/
theorem State.tableCost_bounds (s : State) : s.tableCost ∈ Set.Icc 1 6 := by
  obtain ⟨hT0, hTaken, -⟩ := timing_bounds s.fetchByte0
  obtain ⟨-, -, hT1⟩ := timing_bounds s.fetchByte1
  unfold State.tableCost
  split_ifs
  case pos => exact hT1
  case neg =>
    split
    case h_1 => split_ifs <;> assumption
    case h_2 => exact hT0

/-! ## The cost of an instruction's opcode -/

/-- The cost of the opcode byte of an instruction's own encoding. -/
def instrCost (i : Instr) (f : Flags) : Nat := opcodeCost (i.byte 0) f

/-- An unconditional opcode has its T0 entry, whatever the operand bytes: the opcode is named apart from them, so that its
entry is looked up as a closed term. -/
theorem instrCost_of_opcode {i : Instr} {b : Byte} {operands : List Byte} {n : Nat}
    (henc : encode i = b :: operands) (hcond : conditionOf b = none) (hcost : tableCell timingT0 b 0 = n) (f : Flags) :
    instrCost i f = n := by
  rw [instrCost, Instr.byte, henc, List.getD_cons_zero, opcodeCost, hcond, hcost]

/-- A conditional opcode has an entry for either outcome (R302). -/
theorem instrCost_of_condition {i : Instr} {b : Byte} {operands : List Byte} {cond : Cond} {n m : Nat}
    (henc : encode i = b :: operands) (hcond : conditionOf b = some cond)
    (htaken : tableCell timingT0Taken b 0 = n) (hnot : tableCell timingT0 b 0 = m) (f : Flags) :
    instrCost i f = if condHolds cond f then n else m := by
  rw [instrCost, Instr.byte, henc, List.getD_cons_zero, opcodeCost, hcond, htaken, hnot]

/-! ## Every instruction -/

/-- Run on any state, the instruction charges the cost of its opcode byte under the flags of that state. -/
def ChargesOpcodeCost (i : Instr) : Prop :=
  ∀ s t : State, exec i s = .next t → t.insM = s.insM + instrCost i s.flags

/-- For an instruction of fixed cost. -/
theorem ChargesOpcodeCost.of_exec {i : Instr} {u : State → State} {n : Nat}
    (hexec : ∀ s, exec i s = .next ((u s).charge n)) (hcost : ∀ f, instrCost i f = n)
    (hu : ∀ s, (u s).insM = s.insM) : ChargesOpcodeCost i := by
  intro s t h
  rw [hexec] at h
  cases h
  rw [hcost, State.charge_insM, hu]

/-- For a conditional instruction, with the cost of either outcome (R230). -/
theorem ChargesOpcodeCost.of_cond {i : Instr} {cond : Cond} {u : State → State} {n m : Nat}
    (hexec : ∀ s, exec i s = if condHolds cond s.flags then .next ((u s).charge n) else .next (s.charge m))
    (hcost : ∀ f, instrCost i f = if condHolds cond f then n else m)
    (hu : ∀ s, (u s).insM = s.insM) : ChargesOpcodeCost i := by
  intro s t h
  rw [hexec] at h
  rw [hcost]
  split_ifs at h ⊢ <;> cases h
  · rw [State.charge_insM, hu]
  · rfl

/-- For the stores that move HL, with the amount left open, so that no check computes with it. -/
theorem ChargesOpcodeCost.of_ldAtHLStep {i : Instr} {delta : Word} (hexec : ∀ s, exec i s = ldAtHLStep delta s)
    (hcost : ∀ f, instrCost i f = 2) : ChargesOpcodeCost i :=
  .of_exec hexec hcost fun _ => rfl

/-- Every instruction but the extended rows, one case per family: what its shared operation charges is the entry of each
of its opcodes (R306). -/
theorem chargesOpcodeCost (i : Instr) : i.byte 0 ≠ prefixByte → ChargesOpcodeCost i := by
  induction i using instr_by_family
  -- 0xCB starts the extended rows.
  case prefixCB => exact fun h => absurd rfl h
  case rot op o => exact fun h => absurd (by rw [Instr.byte, encode_mkRot]; rfl) h
  case bit y o => exact fun h => absurd (by rw [Instr.byte, encode_mkBit]; rfl) h
  case res y o => exact fun h => absurd (by rw [Instr.byte, encode_mkRes]; rfl) h
  case set y o => exact fun h => absurd (by rw [Instr.byte, encode_mkSet]; rfl) h
  all_goals rintro -
  -- The conditional families.
  case jpCond cond nn =>
    exact .of_cond (exec_mkJpCond cond nn) (by cases cond <;> exact instrCost_of_condition rfl rfl rfl rfl) fun _ => rfl
  case jrCond cond e =>
    exact .of_cond (exec_mkJrCond cond e) (by cases cond <;> exact instrCost_of_condition rfl rfl rfl rfl) fun _ => rfl
  case callCond cond nn =>
    exact .of_cond (exec_mkCallCond cond nn) (by cases cond <;> exact instrCost_of_condition rfl rfl rfl rfl)
      fun _ => rfl
  case retCond cond =>
    exact .of_cond (exec_mkRetCond cond) (by cases cond <;> exact instrCost_of_condition rfl rfl rfl rfl) fun _ => rfl
  -- The families whose cost depends on the operand form.
  case alu op src =>
    refine .of_exec (exec_mkAlu op src) ?_ (by simp)
    rcases src with r | _ | n
    case reg => cases op <;> cases r <;> exact instrCost_of_opcode rfl rfl rfl
    case atHL | imm => cases op <;> exact instrCost_of_opcode rfl rfl rfl
  case inc8 o =>
    exact .of_exec (exec_mkInc8 o) (fun _ => by rcases o with (_ | _ | _ | _ | _ | _ | _) | _ <;> rfl) (by simp)
  case dec8 o =>
    exact .of_exec (exec_mkDec8 o) (fun _ => by rcases o with (_ | _ | _ | _ | _ | _ | _) | _ <;> rfl) (by simp)
  -- The families of one cost.
  case ldRegReg dst r => exact .of_exec (exec_mkLdRegReg dst r) (fun _ => by cases dst <;> cases r <;> rfl) (by simp)
  case ldRegAtHL r => exact .of_exec (exec_mkLdRegAtHL r) (fun _ => by cases r <;> rfl) (by simp)
  case ldAtHLReg r => exact .of_exec (exec_mkLdAtHLReg r) (fun _ => by cases r <;> rfl) (by simp)
  case ldRegImm r n =>
    exact .of_exec (exec_mkLdRegImm r n) (by cases r <;> exact instrCost_of_opcode rfl rfl rfl) (by simp)
  case ldPairImm p nn =>
    exact .of_exec (exec_mkLdPairImm p nn) (by cases p <;> exact instrCost_of_opcode rfl rfl rfl) (by simp)
  case incPair p => exact .of_exec (exec_mkIncPair p) (fun _ => by cases p <;> rfl) (by simp)
  case decPair p => exact .of_exec (exec_mkDecPair p) (fun _ => by cases p <;> rfl) (by simp)
  case addHL p => exact .of_exec (exec_mkAddHL p) (fun _ => by cases p <;> rfl) (by simp)
  case push p => exact .of_exec (exec_mkPush p) (fun _ => by cases p <;> rfl) (by simp)
  case pop p => exact .of_exec (exec_mkPop p) (fun _ => by cases p <;> rfl) (by simp)
  case rst y => exact .of_exec (exec_mkRst y) (fun _ => by fin_cases y <;> rfl) fun _ => rfl
  case undefinedOpcode i hi => exact .of_exec (exec_undefined hi) (fun _ => by fin_cases hi <;> rfl) fun _ => rfl
  case ldAtHLinc_A | ldAtHLdec_A => exact .of_ldAtHLStep (fun _ => rfl) (instrCost_of_opcode rfl rfl rfl)
  -- The single rows.
  all_goals exact .of_exec (fun _ => rfl) (instrCost_of_opcode rfl rfl rfl) fun _ => rfl

/-! ## A dispatched step -/

/-- The fetched instruction is encoded with the opcode byte (R97, R98). -/
theorem State.byte_zero_fetch (s : State) : s.fetch.byte 0 = s.fetchByte0 := by
  rw [Instr.byte, State.fetch, encode_decodeBytes]
  obtain h | h | h := instrLength_cases s.fetchByte0 <;> rw [h] <;> rfl

/-- A dispatched step leaves its cost on the instruction clock and adds it to the system clock (R300, R301). -/
theorem step_clocks {s t : State} (hidle : s.idle = false) (hstep : step s = .next t) :
    t.insM = s.tableCost ∧ t.sysM = s.sysM + s.tableCost := by
  by_cases hop : s.fetchByte0 = prefixByte
  · obtain ⟨_, hexec, hins, hsys, -⟩ := completes_prefixCB { s with pc := s.pc + 1, currentOpcode := 0xCB, insM := 0 }
    rw [step_of_prefix hidle hop, hexec] at hstep
    cases hstep
    rw [State.tableCost_of_prefix hop]
    exact ⟨hins.trans (Nat.zero_add _), hsys⟩
  · rw [step_eq, if_neg (by simp [hidle])] at hstep
    have hins := chargesOpcodeCost s.fetch (s.byte_zero_fetch ▸ hop) _ _ hstep
    rw [instrCost, s.byte_zero_fetch, State.afterFetch_insM, Nat.zero_add, State.afterFetch_flags,
      ← State.tableCost_of_opcode hop] at hins
    obtain ⟨n, hbook, -⟩ := exec_withBook s.fetch_wf hstep
    have hn : t.insM = 0 + n := congrArg Bookkeeping.insM hbook
    have hsys : t.sysM = s.sysM + n := congrArg Bookkeeping.sysM hbook
    exact ⟨hins, by omega⟩

/-- Settles O43: both clocks take the cost of the row at PC, and every entry of the tables is between 1 and 6. -/
theorem stepChargesTheTimingTables : Obligations.StepChargesTheTimingTables := by
  intro s t hidle hstep
  obtain ⟨hins, hsys⟩ := step_clocks hidle hstep
  exact ⟨hins, hsys, s.tableCost_bounds⟩

end Sys2Proof.Machine
end

section
/-! SUPPORT. Runs to a cycle budget (O55, O56). A step moves the system clock by 1 to 6, so the loop of R304 stops after
the fewest steps that bring the clock to its goal (`runLoop_stopsAt`). -/

namespace Sys2Proof.Machine

open Sys2Proof

/-! ## Runs that stop at a goal -/

/-- Every step answers a next state and moves the system clock by 1 to 6 (R303, R306, R307). -/
theorem step_advances (s : State) : ∃ t, step s = .next t ∧ s.sysM < t.sysM ∧ t.sysM ≤ s.sysM + 6 := by
  obtain ⟨t, hstep⟩ := nothingEverStops.2 s
  refine ⟨t, hstep, ?_⟩
  obtain ⟨-, rfl⟩ | ⟨hidle, -⟩ := step_cases hstep
  · rw [State.idleStep_sysM]
    omega
  · obtain ⟨-, hsys⟩ := step_clocks hidle hstep
    obtain ⟨hpos, hle⟩ := s.tableCost_bounds
    omega

/-- After `k` steps from `s` the machine is at `t`, the first state in which the system clock has reached `goal`. -/
structure StopsAt (goal k : Nat) (s t : State) : Prop where
  run : Host.Core.run Sys2Proof.core k s = .next t
  reached : goal ≤ t.sysM
  overshoot : t.sysM ≤ max s.sysM (goal + 5)
  shorter : ∀ j < k, ∃ u : State, Host.Core.run Sys2Proof.core j s = .next u ∧ s.sysM ≤ u.sysM ∧ u.sysM < goal

/-- Where the goal is reached already, it takes no step. -/
theorem StopsAt.refl {goal : Nat} {s : State} (h : goal ≤ s.sysM) : StopsAt goal 0 s s where
  run := rfl
  reached := h
  overshoot := le_max_left _ _
  shorter _ hj := absurd hj (Nat.not_lt_zero _)

/-- Below the goal, one step more. -/
theorem StopsAt.cons {goal k : Nat} {s t u : State} (hlt : s.sysM < goal) (hstep : step s = .next t)
    (hmono : s.sysM ≤ t.sysM) (hle : t.sysM ≤ s.sysM + 6) (h : StopsAt goal k t u) : StopsAt goal (k + 1) s u where
  run := by rw [core_run_succ hstep, h.run]
  reached := h.reached
  overshoot := by
    have hover := h.overshoot
    omega
  shorter
    | 0, _ => ⟨s, rfl, le_rfl, hlt⟩
    | j + 1, hj => by
      obtain ⟨v, hrun, hv, hvlt⟩ := h.shorter j (Nat.lt_of_succ_lt_succ hj)
      exact ⟨v, by rw [core_run_succ hstep, hrun], hmono.trans hv, hvlt⟩

/-- The loop, entered with the total that the clock has moved since `start`, stops where the clock has moved by the
budget, and its total is what the clock has moved then: by induction on the fuel, which lasts since a step costs at
least 1. -/
theorem runLoop_stopsAt (fuel : Nat) {budget start total : Nat} {s : State} (hclock : s.sysM = start + total)
    (hfuel : budget ≤ total + fuel) :
    ∃ k t, StopsAt (start + budget) k s t ∧ runLoop fuel budget total s = .next (t, t.sysM - start) := by
  induction fuel generalizing s total with
  | zero => exact ⟨0, s, .refl (by omega), by rw [runLoop, hclock, Nat.add_sub_cancel_left]⟩
  | succ fuel ih =>
    by_cases hlt : total < budget
    case pos =>
      obtain ⟨u, hstep, hpos, hle⟩ := step_advances s
      have hcost : u.sysM = start + (total + stepCost s u) := by
        rw [stepCost]
        omega
      obtain ⟨k, t, hstops, hloop⟩ := ih hcost (by omega)
      exact ⟨k + 1, t, .cons (by omega) hstep hpos.le hle hstops, by rw [runLoop_below hlt hstep, hloop]⟩
    case neg => exact ⟨0, s, .refl (by omega), by rw [runLoop_done hlt, hclock, Nat.add_sub_cancel_left]⟩

/-! ## `run` -/

/-- What `run` answers, from what its loop ends with (R304). -/
theorem run_of_runLoop {budget : BitVec 32} {s t : State} {total : Nat}
    (h : runLoop budget.toNat budget.toNat 0 s = .next (t, total)) :
    run budget s = .next (t, BitVec.ofNat 32 total) := by
  rw [run, h]

/-- Settles O55: the loop of `run` stops where `runLoop_stopsAt` says, and a budget of 0 is no fuel. -/
theorem runIteratesStepsUpToTheBudget : Obligations.RunIteratesStepsUpToTheBudget := by
  refine ⟨fun budget s => ?_, fun s => rfl⟩
  obtain ⟨k, t, hstops, hloop⟩ := runLoop_stopsAt budget.toNat (Nat.add_zero s.sysM).symm (Nat.zero_add _).ge
  have hover := hstops.overshoot
  exact ⟨k, t, hstops.run, run_of_runLoop hloop, hstops.reached, fun _ => by omega, hstops.shorter⟩

/-- On an idle CORE the loop spends its fuel one machine cycle at a time (R303, R336): by induction on the fuel. -/
theorem runLoop_of_idle (fuel total : Nat) {s : State} (hidle : s.idle = true) :
    runLoop fuel (total + fuel) total s = .next ({ s with sysM := s.sysM + fuel }, total + fuel) := by
  induction fuel generalizing total s with
  | zero => rfl
  | succ fuel ih =>
    have hcost : stepCost s s.idleStep = 1 := Nat.add_sub_cancel_left _ _
    have hrest := ih (total + 1) (s := s.idleStep) hidle
    rw [State.idleStep_sysM, Nat.add_assoc, Nat.add_assoc, Nat.add_comm 1 fuel] at hrest
    rw [runLoop_below (by omega) (step_of_idle hidle), hcost, hrest]
    rfl

/-- Settles O56: a budget of 1 is fuel for one step, and an idle CORE spends its whole budget on idle steps. -/
theorem singleStepAndIdleRuns : Obligations.SingleStepAndIdleRuns := by
  refine ⟨fun s t hstep => ?_, fun budget s hidle => ?_⟩
  · have hloop : runLoop 1 1 0 s = .next (t, stepCost s t) := by
      rw [runLoop_below Nat.one_pos hstep, Nat.zero_add]
      rfl
    exact run_of_runLoop hloop
  · have hloop := runLoop_of_idle budget.toNat 0 hidle
    rw [Nat.zero_add] at hloop
    rw [run_of_runLoop hloop, BitVec.ofNat_toNat, BitVec.setWidth_eq]

end Sys2Proof.Machine
end

section
/-! SUPPORT. The reset values (O51). A reset differs from `State.reset` in its memory alone, so every register, run state
and clock after it is the one `State.reset` lists; only F and the pairs, which are read from their parts, are computed. -/

namespace Sys2Proof.Machine

open Sys2Proof

/-- F and the pairs of the reset state, put together from the flags and the halves (R21, R26, R345). -/
theorem State.reset_f_and_pairs :
    State.reset.f = 0xB0 ∧ State.reset.bc = 0x0013 ∧ State.reset.de = 0x00D8 ∧ State.reset.hl = 0x014D := by decide

/-- Settles O51: each stored value is a field of `State.reset`, and F and the pairs read no memory. -/
theorem resetValues : Obligations.ResetValues := by
  intro s
  obtain ⟨hf, hbc, hde, hhl⟩ := State.reset_f_and_pairs
  have hmem : ∃ m, State.reset = { s.doReset with mem := m } := ⟨State.reset.mem, rfl⟩
  exact ⟨hmem, rfl, rfl, hf, hbc, hde, hhl, rfl, rfl, rfl, rfl, rfl, rfl, rfl, rfl, rfl, rfl, rfl, rfl, rfl⟩

end Sys2Proof.Machine
end
